-- ==== Sys2Proof/Word.lean ====
section
/-! DEFINITION. The words that cross the FL420's edge: bytes, 16-bit packet fields and pixels. -/

namespace Sys2Proof

/-- One byte of a packet, of a response, of a record or of the start-up image (R172). -/
abbrev Byte := BitVec 8

/-- A packet field carried as a value of 0 to 65535 (R64). -/
abbrev Word16 := BitVec 16

/-- A pixel has R, G and B components, each 0 to 1023 (00, Conventions; R64). -/
structure Pixel where
  r : BitVec 10
  g : BitVec 10
  b : BitVec 10
deriving DecidableEq, Repr

/-- Black is 0 in all three components (00, Conventions). -/
def Pixel.black : Pixel := ⟨0, 0, 0⟩

end Sys2Proof
end

