-- ==== Sys2Proof/Syntax.lean ====
section
/-! DEFINITION. The commands of the FL420: one constructor for each row of spec/opcode_table.json. The table gives its
rows no operands; a constructor carries what the spec leaves to the outside at that step. A command of the command
summary (R165, 10.4) has no operand here: it acts on the packet at the head of the command queue, which CTRL brought
(log 3). -/

namespace Sys2Proof

/-- One step of the part (95: each whole and indivisible). -/
inductive Instr where
  /-- RESET (R80): power-on reset or RSTN. -/
  | reset
  /-- SOFT_RESET (R169). -/
  | softReset
  /-- CTRL (R163, R164): a packet arrives, with its first byte (tag in bits 3 to 0), command code, operand byte
  count and the operand bytes it delivers. -/
  | ctrl (first code count : Byte) (operands : List Byte)
  /-- UNKNOWN_COMMAND (R165). -/
  | unknownCommand
  /-- OTHER_PACKET (R64). -/
  | otherPacket
  /-- SLOT_CLEAR (R9). -/
  | slotClear
  /-- SLOT_ZONES (R10). -/
  | slotZones
  /-- ENTRY_PUT (R11). -/
  | entryPut
  /-- ENTRY_DROP (R13). -/
  | entryDrop
  /-- SLOT_CHECK (R14). -/
  | slotCheck
  /-- SLOT_READ (R19). -/
  | slotRead
  /-- MAP_SET (R22). -/
  | mapSet
  /-- FACE_SET (R39). -/
  | faceSet
  /-- ANGLE_SET (R45). -/
  | angleSet
  /-- ANGLE_CAL (R47). -/
  | angleCal
  /-- GAIN_LOAD (R108). -/
  | gainLoad
  /-- GAIN_POINTS (R110). -/
  | gainPoints
  /-- PROFILE_SET (R125). -/
  | profileSet
  /-- EMIT_SET (R146). -/
  | emitSet
  /-- EMIT_PERIOD (R148). -/
  | emitPeriod
  /-- EMIT_FADE (R147). -/
  | emitFade
  /-- GUARD_SET (R160). -/
  | guardSet
  /-- REPORT_READ (R176). -/
  | reportRead
  /-- ATTN_SET (R177). -/
  | attnSet
  /-- STATUS_READ (R168). -/
  | statusRead
  /-- FAULT_CLEAR (R170). -/
  | faultClear
  /-- IMAGE_RELOAD (R180). -/
  | imageReload
  /-- FOPEN (R68): frame number, source width, source height. -/
  | fopen (frame width height : Word16)
  /-- LINE (R74): row and pixel payload of any length. -/
  | line (row : Word16) (payload : List Pixel)
  /-- FCLOSE (R76): lines-sent count. -/
  | fclose (linesSent : Word16)
  /-- SAMPLE_TIMER_EXPIRY (R27). -/
  | sampleTimerExpiry
  /-- BUS_START_SEEN (R50). -/
  | busStartSeen
  /-- BUS_STOP_SEEN (R50). -/
  | busStopSeen
  /-- BUS_IDLE_TIMEOUT (R50). -/
  | busIdleTimeout
  /-- TRANSACTION_START (R52). -/
  | transactionStart
  /-- ARBITRATION_LOST (R57). -/
  | arbitrationLost
  /-- SENSOR_READ_COMPLETE (R54): the two data bytes, and whether arbitration was lost at the final
  not-acknowledge bit (R58). -/
  | sensorReadComplete (first second : Byte) (lateLoss : Bool)
  /-- NVM_READ_COMPLETE (R55): the data bytes, and whether arbitration was lost at the final bit (R58). -/
  | nvmReadComplete (bytes : List Byte) (lateLoss : Bool)
  /-- NACK_ABORT (R59). -/
  | nackAbort
  /-- STRETCH_TIMEOUT (R60). -/
  | stretchTimeout
  /-- TOTAL_TIMEOUT (R61): whether SCL is held low against the FL420. -/
  | totalTimeout (sclHeldLow : Bool)
  /-- FRAME_SET_UP (R84). -/
  | frameSetUp
  /-- LINE_ITEM (R88). -/
  | lineItem
  /-- WAITING_RUN_PLACED (R91). -/
  | waitingRunPlaced
  /-- FRAME_END (R93). -/
  | frameEnd
  /-- FILL_SWEEP_RUN (R96). -/
  | fillSweepRun
  /-- POSTURE_NOTICE (R99). -/
  | postureNotice
  /-- MAP_SET_NOTICE (R99). -/
  | mapSetNotice
  /-- GUARD_STATE_NOTICE (R99). -/
  | guardStateNotice
  /-- DROP_NOTICE (R103). -/
  | dropNotice
  /-- GRANT (R123). -/
  | grant
  /-- TURNAROUND_DONE (R126). -/
  | turnaroundDone
  /-- WINDOW_ACCEPTED (R127). -/
  | windowAccepted
  /-- REJECT (R128), from the driver that `lineFrom` of State names (log 29). -/
  | reject
  /-- RETRY_DONE (R128). -/
  | retryDone
  /-- HOLD_LIMIT (R131), from the driver that `lineFrom` of State names (log 29): in DATA, how many pairs were completed
  before the drop. -/
  | holdLimit (pairsDone : Nat)
  /-- RUN_FINISHED (R130). -/
  | runFinished
  /-- PERIOD_END (R141). -/
  | periodEnd
  /-- ESTOP_ASSERTED (R149). -/
  | estopAsserted
  /-- ESTOP_RELEASED (R150). -/
  | estopReleased
  /-- TICK (R155). -/
  | tick
  /-- GUARD_TIMER_EXPIRY (R158). -/
  | guardTimerExpiry
  /-- ATTN_PULSE_END (R178). -/
  | attnPulseEnd
  /-- BUS_LINE_LOW (R50). -/
  | busLineLow
deriving DecidableEq, Repr

end Sys2Proof
end

