-- ==== Sys2Proof/Decode.lean ====
section
/-! DEFINITION. The commands that a word of the table's bits spells. No row of spec/opcode_table.json gives any bits
("fields" is empty in all 64 rows), so no word spells a command. The byte layout of the CTRL packet (R172) is read by
the control unit, in Machine/Operands.lean. -/

namespace Sys2Proof

/-- The command spelled by the low `nbits` bits of `w`: none, for the table gives no row any bits. -/
def decodeTableWord (_nbits _w : Nat) : Option Instr := none

end Sys2Proof
end

