-- ==== Sys2Proof/Config.lean ====
section
/-! DEFINITION. The free values: what the spec leaves open and the model must not choose. Each is opaque and has no
body, so no proof can see it; each is applied to the counter `freeIndex` of State, so each use is a fresh value. -/

namespace Sys2Proof.Config

/-- The clock-driven counters that have no row of their own in the table (log 1). -/
inductive Clock where
  /-- the posture unit's sample timer (R27), microseconds -/
  | sample
  /-- the side bus idle timer (R50), microseconds -/
  | busIdle
  /-- the side bus total timer (R52), microseconds -/
  | busTotal
  /-- the side bus stretch timer (R56), microseconds -/
  | busStretch
  /-- the three period counters (R140), PWM ticks -/
  | pwm
  /-- the panel bus beats (R126), beats -/
  | beat
  /-- the consecutive held beats of an attempt (R127), beats -/
  | held
  /-- the ATTN pulse (R178), nanoseconds -/
  | pulse
deriving DecidableEq, Repr

/-- FREE VALUE. How far a clock-driven counter has moved when the block idles (log 1). -/
opaque clockAdvance : Clock → Nat → Nat

/-- FREE VALUE. How many pairs a DATA phase had sent when a reset cut it short (R139, log 12). -/
opaque pairsSentAtReset : Nat → Nat

/-- FREE VALUE. Whether a side bus line that was low is found high again when the block idles (R50, log 26). -/
opaque linesRise : Nat → Bool

/-- FREE VALUE. How much of a side bus sequence had been sent when the attempt ended before its completion (R57 to R61,
R51, log 20). -/
opaque symbolsSent : Nat → Nat

/-- FREE VALUE. Whether HOLD is asserted on the beat on which REJECT is (R127, log 27). -/
opaque holdOnReject : Nat → Bool

/-- FREE VALUE. Which driver's HOLD or REJECT line comes to be spoken of when the block idles: none for the driver of
the run in transfer, else 0 for F, 1 for S, 2 for K (R135, log 29). -/
opaque lineFrom : Nat → Option (Fin 3)

/-- FREE VALUE. What the NVM cursor and the section start hold when the address of the next byte would be past 65535
(R181, log 11). -/
opaque cursorPastTop : Nat → BitVec 16

end Sys2Proof.Config
end

