-- ==== Sys2Proof/Machine/Types.lean ====
section
/-! DEFINITION. The data of each block of the FL420 (00, Block diagram), one structure a block, with the ranges of the
spec in the docstrings. Numbers that the spec counts with are `Nat` or `Int`, since all arithmetic of the manual is
exact (00, Conventions); words the processor reads or writes as bits are bit vectors. -/

namespace Sys2Proof.Machine

/-! ### Zones and layouts (chapter 1) -/

/-- The three panel zones (R1). Each has one driver, one run queue and one emission output. -/
inductive Zone where
  | front
  | spine
  | back
deriving DecidableEq, Repr

/-- A driver chip, named by its zone: F is FRONT, S is SPINE, K is BACK (R1). -/
abbrev Driver := Zone

/-- One value for each zone or driver. -/
structure PerZone (α : Type) where
  front : α
  spine : α
  back : α
deriving DecidableEq, Repr

/-- The modes of a zone (R7). -/
inductive ZoneMode where
  | live
  | hold
  | dark
deriving DecidableEq, Repr

/-- A rectangle by left column, top row, width and height (R2). -/
structure Rect where
  col : Nat
  row : Nat
  width : Nat
  height : Nat
deriving DecidableEq, Repr

/-- What an entry writes into its rectangle (R6). The fields of the other kind are absent. -/
inductive EntryBody where
  /-- COPY: source position and mirror. -/
  | copy (srcCol srcRow : Nat) (mirror : Bool)
  /-- FILL: one colour. -/
  | fill (colour : Pixel)
deriving DecidableEq, Repr

/-- One entry of a layout's list (R6). -/
structure Entry where
  dst : Rect
  body : EntryBody
deriving DecidableEq, Repr

/-- A layout record (R5). The entry count is the length of the list. -/
structure Layout where
  modes : PerZone ZoneMode
  entries : List Entry
deriving DecidableEq, Repr

/-- The states of a layout slot (R3). -/
inductive SlotState where
  | empty
  | editing
  | ready
deriving DecidableEq, Repr

/-- A layout slot (R3). -/
structure Slot where
  state : SlotState
  layout : Layout
deriving DecidableEq, Repr

/-- A posture map: one slot number for each of the four postures (R21). -/
structure PostureMap where
  opened : Fin 8
  bent : Fin 8
  closedFront : Fin 8
  closedBack : Fin 8
deriving DecidableEq, Repr

/-- The layout store (R3, R21). -/
structure LayoutStore where
  slots : Vector Slot 8
  active : PostureMap
  pendingMap : PostureMap
deriving DecidableEq, Repr

/-! ### Posture sensing (chapter 2) -/

/-- The postures (R34). -/
inductive Posture where
  | unset
  | opened
  | bent
  | closedFront
  | closedBack
deriving DecidableEq, Repr

/-- The classes of the classifier (R34). -/
inductive PostureClass where
  | opened
  | bent
  | closed
deriving DecidableEq, Repr

/-- Which face the user looks at (R39). -/
inductive Facing where
  | front
  | back
deriving DecidableEq, Repr

/-- The four thresholds (R34), each 0 to 2048. -/
structure Thresholds where
  closedEnter : Nat
  closedExit : Nat
  openExit : Nat
  openEnter : Nat
deriving DecidableEq, Repr

/-- What ANGLE_SET stores (R45). -/
structure AngleConfig where
  /-- 0 to 3 (R27) -/
  rate : Nat
  /-- smoothing shift, 0 to 5 (R32) -/
  k : Nat
  thresholds : Thresholds
  /-- dwell D, 1 to 255 (R35) -/
  dwell : Nat
  sensorAddress : BitVec 7
  sensorRegister : Byte
deriving DecidableEq, Repr

/-- The posture unit (02, section 2.1). -/
structure PostureUnit where
  config : AngleConfig
  /-- microseconds since the sample timer last restarted (R27) -/
  sampleTimer : Nat
  /-- calibration offset, -2048 to 2047 (R30) -/
  offset : Int
  /-- filter state, none while uninitialised, else 0 to 32768 (R32) -/
  y : Option Nat
  /-- filtered angle, 0 to 2048 (R33) -/
  f : Nat
  /-- blend weight, 0 to 256 (R44) -/
  w : Nat
  posture : Posture
  facing : Facing
  /-- none while cleared (R35) -/
  candidate : Option PostureClass
  dwellCount : Nat
  /-- 0 to 8 (R41) -/
  missCount : Nat
  sensorLost : Bool
  /-- a sensor read is outstanding (R27) -/
  outstanding : Bool
deriving DecidableEq, Repr

/-! ### Side bus master (chapter 3) -/

/-- The bus state (R50). -/
inductive BusState where
  | free
  | busy
deriving DecidableEq, Repr

/-- A request to the side bus master (R52). -/
inductive Request where
  /-- from the posture unit: sensor address and register -/
  | sensor (address : BitVec 7) (register : Byte)
  /-- from the image loader: NVM byte address and byte count -/
  | nvm (address count : Nat)
deriving DecidableEq, Repr

/-- The transaction slot (R52). -/
inductive TransactionSlot where
  | empty
  | waiting (request : Request)
  | active (request : Request)
deriving DecidableEq, Repr

/-- The side bus master (03). Timers are in microseconds (log 8). -/
structure SideBus where
  /-- the FL420 drives neither SCL nor SDA (R51, R63) -/
  linesReleased : Bool
  /-- SCL and SDA were both high when last sampled (R50, log 26) -/
  linesHigh : Bool
  state : BusState
  idleTimer : Nat
  slot : TransactionSlot
  waitingRequest : Option Request
  totalTimer : Nat
  stretchTimer : Nat
  received : List Byte
deriving DecidableEq, Repr

/-! ### Frame intake (chapter 4) -/

/-- The intake states (R65). -/
inductive IntakeState where
  | idle
  | receiving
  | refusing
deriving DecidableEq, Repr

/-- An item of the intake queue (R66). -/
inductive IntakeItem where
  | frameStart (number : Word16) (width height : Nat)
  | line (slot : Fin 32) (row : Nat)
  | frameEnd
deriving DecidableEq, Repr

/-- The contents of an occupied line slot (R67). -/
structure LineSlot where
  pixels : List Pixel
  /-- the mapper hold -/
  hold : Bool
  /-- the reference count -/
  refs : Nat
deriving DecidableEq, Repr

/-- The frame header (R65). -/
structure FrameHeader where
  number : Word16
  width : Nat
  height : Nat
deriving DecidableEq, Repr

/-- The frame intake (04). -/
structure Intake where
  state : IntakeState
  header : FrameHeader
  lastFrame : Word16
  lastRow : Option Nat
  arrived : Nat
  accepted : Nat
  dropped : Nat
  firstDropped : Option Nat
  /-- one bit for each anomaly, placed as in the INTAKE record (R78, R172) -/
  anomalies : BitVec 16
  strayReported : Bool
  /-- the intake queue, oldest first (R66) -/
  queue : List IntakeItem
  /-- one item is reserved for the open frame's FRAME_END (R66) -/
  reserved : Bool
  /-- the line store; none is a free slot (R67) -/
  lines : Vector (Option LineSlot) 32
deriving DecidableEq, Repr

/-! ### Runs (chapters 5 and 7) -/

/-- Where a run's pixels come from (R89, R95). -/
inductive RunSource where
  /-- COPY: line slot, source start column, mirror, source width, gain snapshot (present for driver S) -/
  | copy (lineSlot : Fin 32) (srcCol : Nat) (mirror : Bool) (srcWidth : Nat) (snapshot : Option (Fin 2))
  /-- FILL: the colour -/
  | fill (colour : Pixel)
deriving DecidableEq, Repr

/-- A run (R89, R95, R120). `firstCol` is a driver column. -/
structure Run where
  driver : Driver
  row : Nat
  firstCol : Nat
  count : Nat
  source : RunSource
  attempts : Nat
deriving DecidableEq, Repr

/-! ### Link guard (chapter 9) -/

/-- The guard states (R156). -/
inductive GuardState where
  | live
  | hold
  | blank
deriving DecidableEq, Repr

/-- A running guard timer with its limit, in milliseconds (R156). -/
structure GuardTimer where
  count : Nat
  limit : Nat
deriving DecidableEq, Repr

/-- The link guard (09). -/
structure LinkGuard where
  state : GuardState
  /-- none while stopped -/
  timer : Option GuardTimer
  /-- 0 to 255 -/
  holdCode : Nat
  /-- 1 to 255 -/
  blankCode : Nat
  /-- the millisecond tick (R155) -/
  tick : BitVec 32
deriving DecidableEq, Repr

/-! ### Mapper (chapter 5) -/

/-- The frame in hand (R84): frame number, declared geometry and gain snapshot. -/
structure FrameInHand where
  number : Word16
  width : Nat
  height : Nat
  snapshot : Fin 2
deriving DecidableEq, Repr

/-- The line in hand: the LINE item and the index of the next entry to examine (R83). -/
structure LineInHand where
  slot : Fin 32
  row : Nat
  next : Nat
deriving DecidableEq, Repr

/-- An item of the fill list: a rectangle in one zone, with its left edge as a driver column (R94, R95). -/
structure FillItem where
  driver : Driver
  firstCol : Nat
  row : Nat
  width : Nat
  height : Nat
  colour : Pixel
deriving DecidableEq, Repr

/-- A position of the fill sweep (R96). -/
structure Cursor where
  item : Nat
  row : Nat
deriving DecidableEq, Repr

/-- The notices the mapper receives (R83). -/
inductive Notice where
  /-- a posture was adopted (R38) -/
  | posture
  /-- a MAP_SET was admitted (R22) -/
  | mapSet
  /-- the guard's new state (R159) -/
  | guardState (new : GuardState)
  /-- a run for this zone was dropped (R132) -/
  | drop (zone : Zone)
deriving DecidableEq, Repr

/-- The mapper (05, section 5.1). -/
structure Mapper where
  copySlot : Fin 8
  copy : Layout
  postureInEffect : Posture
  frameOpen : Bool
  frameInHand : Option FrameInHand
  lastFrame : Word16
  lineInHand : Option LineInHand
  waitingRun : Option Run
  fillList : List FillItem
  /-- none is IDLE -/
  cursor : Option Cursor
  repaintPending : Bool
  zoneRequests : PerZone Bool
  changeNotice : Bool
  guardHeld : GuardState
  /-- not yet acted on, in order of arrival (R83) -/
  notices : List Notice
deriving DecidableEq, Repr

/-! ### Gain unit (chapter 6) -/

/-- A snapshot buffer with its reference count (R112). -/
structure Snapshot where
  gains : Vector Nat 72
  refs : Nat
deriving DecidableEq, Repr

/-- The gain unit (06, section 6.1). -/
structure GainUnit where
  flat : Vector Nat 72
  fold : Vector Nat 72
  foldPt : Nat
  flatPt : Nat
  buffers : Vector Snapshot 2
  current : Fin 2
deriving DecidableEq, Repr

/-! ### Panel bus engine (chapter 7) -/

/-- A driver profile (R124): class 1 to 3, wait 0 to 3, turnaround 0 to 3. -/
structure Profile where
  timingClass : Nat
  wait : Nat
  turnaround : Nat
deriving DecidableEq, Repr

/-- The transfer state (07, section 7.5), with the beats owed in TURNAROUND and RETRY (R126, R128). -/
inductive Phase where
  | idle
  | turnaround (owed : Nat)
  | window
  | data
  | retry (owed : Nat)
deriving DecidableEq, Repr

/-- The last run that ended on the bus (R126). -/
structure LastClose where
  driver : Driver
  turnaround : Nat
  beatsSince : Nat
deriving DecidableEq, Repr

/-- The panel bus engine (07, section 7.1). -/
structure Engine where
  queues : PerZone (List Run)
  pointer : Driver
  phase : Phase
  inTransfer : Option Run
  profileInUse : Profile
  lastClose : Option LastClose
  holdCount : Nat
  profiles : PerZone Profile
  faultFlags : PerZone Bool
deriving DecidableEq, Repr

/-! ### Emission unit (chapter 8) -/

/-- What the emission unit keeps for one zone (08, section 8.1). -/
structure ZoneEmission where
  commanded : Nat
  current : Nat
  onCount : Nat
  counter : Nat
  mode : ZoneMode
deriving DecidableEq, Repr

/-- The emission unit (08). -/
structure EmissionUnit where
  zones : PerZone ZoneEmission
  period : Nat
  pendingPeriod : Option Nat
  fadeStep : Nat
  latch : Bool
deriving DecidableEq, Repr

/-! ### Control unit (chapter 10) -/

/-- A CTRL packet as delivered (R163, R172). -/
structure Packet where
  first : Byte
  code : Byte
  count : Byte
  operands : List Byte
deriving DecidableEq, Repr

/-- The statuses of a RESP (R166). -/
inductive Status where
  | ok
  | busy
  | range
  | state
  | inUse
  | checkFailed
  | unknown
  | length
deriving DecidableEq, Repr

/-- A RESP packet (R166). -/
structure Resp where
  tag : BitVec 4
  overrun : Bool
  status : Status
  data : List Byte
deriving DecidableEq, Repr

/-- The control unit (10, section 10.1). -/
structure Control where
  queue : List Packet
  overrun : Bool
deriving DecidableEq, Repr

/-! ### Image loader (chapter 12) -/

/-- The outcomes of a loader run (R185). `none` stands before the first run has ended. -/
inductive LoadOutcome where
  | none
  | complete
  | partialLoad
  | noImage
  | format
  | overflow
  | busFault
deriving DecidableEq, Repr

/-- What the NVM read under way is for (R181). -/
inductive LoaderPhase where
  | idle
  | marker
  | header
  /-- a known section's body: its kind, its length and the bytes read so far -/
  | body (kind : Byte) (length : Nat) (got : List Byte)
deriving DecidableEq, Repr

/-- The image loader (12, section 12.1). -/
structure Loader where
  running : Bool
  cursor : Nat
  sectionStart : Nat
  applied : Nat
  failed : Nat
  failureNoted : Bool
  lastOutcome : LoadOutcome
  /-- the address limit read at the start of the run (R180) -/
  limit : Nat
  phase : LoaderPhase
deriving DecidableEq, Repr

/-! ### Report queue (chapter 11) -/

/-- The fault codes (R172). -/
inductive FaultCode where
  | sensorLost
  | sensorBack
  | driverReject
  | driverStuck
  | estop
deriving DecidableEq, Repr

/-- The kinds of record the queue holds (R175). -/
inductive ReportKind where
  | posture
  | applied
  | guardChange
  | intake
  | fault
  | loader
deriving DecidableEq, Repr

/-- A record's per-kind flags and body, as the offering rule gives them (R175). -/
inductive ReportBody where
  /-- R38: new posture, previous posture, f, INITIAL, FACE -/
  | posture (new previous : Posture) (f : Nat) (initial face : Bool)
  /-- R86, R100 -/
  | applied (slot : Fin 8) (posture : Posture) (frame : Word16)
      (slotChanged forced standalone sourceShort : Bool)
  /-- R159 -/
  | guardChange (new previous : GuardState)
  /-- R78, R72 -/
  | intake (frame : Word16) (anomalies : BitVec 16) (accepted dropped : Nat) (firstDropped : Option Nat)
  /-- R41, R43, R133, R149. Where no driver is concerned the driver and row fields read 0, and F has code 0. -/
  | fault (code : FaultCode) (driver : Driver) (row f : Nat)
  /-- R185 -/
  | loader (outcome : LoadOutcome) (applied failed address : Nat)
deriving DecidableEq, Repr

/-- A record held in the queue: its body, with the timestamp and the LOST flag it got at admission (R174). -/
structure Record where
  body : ReportBody
  lost : Bool
  stamp : Word16
deriving DecidableEq, Repr

/-- The ATTN modes (R177). -/
inductive AttnMode where
  | level
  | pulse
deriving DecidableEq, Repr

/-- The report queue (11, section 11.1). Occupancy and counts per kind are computed from the records. -/
structure Reports where
  records : List Record
  lostPending : Bool
  /-- bit n enables kind n, for n of 1 to 6; bits 0 and 7 are kept clear (R177) -/
  attnMask : Byte
  attnMode : AttnMode
  /-- none, or the nanoseconds left of a pulse (R178) -/
  pulse : Option Nat
deriving DecidableEq, Repr

/-! ### Outside the part -/

/-- What the panel bus carried to a driver (R127, R129). -/
inductive PanelTransfer where
  /-- an accepted window: destination row, first and last driver column, pixel count -/
  | window (driver : Driver) (row firstCol lastCol count : Nat)
  /-- the pixels of completed pairs, from the first driver column upward -/
  | pixels (driver : Driver) (row firstCol : Nat) (pixels : List Pixel)
deriving DecidableEq, Repr

/-- What the FL420 sends on the side bus (R54, R55). -/
inductive BusSymbol where
  | start
  /-- a 7-bit address, with read direction or write direction -/
  | address (device : BitVec 7) (read : Bool)
  | byte (value : Byte)
  | repeatedStart
  | acknowledge
  | notAcknowledge
  | stop
deriving DecidableEq, Repr

/-- The input pins that hold a level, and what has left the part. -/
structure Outside where
  /-- the ESTOP input is active (R149) -/
  estop : Bool
  /-- the NVSZ strap is high (R180) -/
  nvszHigh : Bool
  /-- the MODEL's own: the driver whose REJECT or HOLD line the rows REJECT and HOLD_LIMIT speak of; none stands for the
  driver of the run in transfer (R135, log 29) -/
  lineFrom : Option Driver
  /-- the RESP packets sent, oldest first (R166) -/
  returnLane : List Resp
  /-- what the FL420 has sent on the side bus, oldest first (R54, R55, log 20) -/
  sideBus : List BusSymbol
  /-- what the panel bus carried, oldest first (R138) -/
  panelBus : List PanelTransfer
deriving DecidableEq, Repr

end Sys2Proof.Machine
end

