-- ==== Sys2Proof/Machine/Geometry.lean ====
section
/-! DEFINITION. Zones, rectangles and per-zone access (R1, R2). -/

namespace Sys2Proof.Machine

/-- The value of one zone. -/
def PerZone.get {α : Type} (p : PerZone α) : Zone → α
  | .front => p.front
  | .spine => p.spine
  | .back => p.back

/-- The same values but for one zone. -/
def PerZone.set {α : Type} (p : PerZone α) (z : Zone) (a : α) : PerZone α :=
  match z with
  | .front => { p with front := a }
  | .spine => { p with spine := a }
  | .back => { p with back := a }

/-- A function applied to the value of each zone. -/
def PerZone.map {α β : Type} (p : PerZone α) (f : α → β) : PerZone β :=
  ⟨f p.front, f p.spine, f p.back⟩

/-- The same value for each zone. -/
def PerZone.same {α : Type} (a : α) : PerZone α := ⟨a, a, a⟩

/-- The zones in the order FRONT, SPINE, BACK (R17, R94). -/
def allZones : List Zone := [.front, .spine, .back]

/-- The panel's columns and rows (R1). -/
def panelCols : Nat := 1800

/-- See `panelCols`. -/
def panelRows : Nat := 2400

/-- A zone's first column (R1). -/
def Zone.firstCol : Zone → Nat
  | .front => 0
  | .spine => 864
  | .back => 936

/-- A zone's width (R1). -/
def Zone.width : Zone → Nat
  | .front => 864
  | .spine => 72
  | .back => 864

/-- A zone's area (R2). -/
def Zone.area (z : Zone) : Nat := z.width * panelRows

/-- The zone of a panel column (R1). -/
def zoneOfCol (col : Nat) : Zone :=
  if col < 864 then .front else if col < 936 then .spine else .back

/-- The column to the right of the rectangle's last (R2). -/
def Rect.endCol (r : Rect) : Nat := r.col + r.width

/-- The row below the rectangle's last (R2). -/
def Rect.endRow (r : Rect) : Nat := r.row + r.height

/-- The rectangle's area (R2). -/
def Rect.area (r : Rect) : Nat := r.width * r.height

/-- The rectangle leaves no edge of the 1800 by 2400 raster: its last column is at most 1799 and its last row at most
2399 (R2). -/
def Rect.inRaster (r : Rect) : Bool := decide (r.endCol ≤ panelCols ∧ r.endRow ≤ panelRows)

/-- The zone the rectangle lies inside: its left column and its last column both belong to it (R2). -/
def Rect.zone? (r : Rect) : Option Zone :=
  if zoneOfCol r.col = zoneOfCol (r.endCol - 1) then some (zoneOfCol r.col) else none

/-- Two rectangles share a pixel: their column spans meet and their row spans meet (R16). -/
def Rect.overlaps (a b : Rect) : Bool :=
  decide (a.col < b.endCol ∧ b.col < a.endCol ∧ a.row < b.endRow ∧ b.row < a.endRow)

end Sys2Proof.Machine
end

