-- ==== Sys2Proof/Machine/ResetValues.lean ====
section
/-! DEFINITION. What each block holds after reset: the tables of R26, R49, R63, R80, R106, R119, R139, R154, R162,
R171, R179 and R185. A value the spec does not give is marked with its log entry. -/

namespace Sys2Proof.Machine

/-- A COPY entry of the identity layout: a zone copied from the same source columns (R4). -/
def identityEntry (z : Zone) : Entry :=
  ⟨⟨z.firstCol, 0, z.width, panelRows⟩, .copy z.firstCol 0 false⟩

/-- The identity layout (R4). -/
def identityLayout : Layout := ⟨PerZone.same .live, allZones.map identityEntry⟩

/-- An empty layout: all zones LIVE and no entries (R3, R9). -/
def emptyLayout : Layout := ⟨PerZone.same .live, []⟩

/-- Slot 0 (R4). -/
def identitySlot : Slot := ⟨.ready, identityLayout⟩

/-- An EMPTY slot (R3). -/
def emptySlot : Slot := ⟨.empty, emptyLayout⟩

/-- A map that names slot 0 for every posture (R21). -/
def zeroMap : PostureMap := ⟨0, 0, 0, 0⟩

/-- R26. -/
def LayoutStore.resetValue : LayoutStore :=
  { slots := (Vector.replicate 8 emptySlot).set 0 identitySlot
    active := zeroMap
    pendingMap := zeroMap }

/-- R49. -/
def PostureUnit.resetValue : PostureUnit :=
  { config :=
      { rate := 1, k := 2, thresholds := ⟨256, 352, 1696, 1824⟩, dwell := 4
        sensorAddress := 0x36, sensorRegister := 0x10 }
    sampleTimer := 0, offset := 0, y := none, f := 0, w := 0, posture := .unset, facing := .front
    candidate := none, dwellCount := 0, missCount := 0, sensorLost := false, outstanding := false }

/-- R63: the table, before the loader's first request. That the lines are not yet seen high is a DESIGN CHOICE (log
26). -/
def SideBus.resetValue : SideBus :=
  { linesReleased := true, linesHigh := false, state := .busy, idleTimer := 0, slot := .empty, waitingRequest := none
    totalTimer := 0, stretchTimer := 0, received := [] }

/-- R80. -/
def Intake.resetValue : Intake :=
  { state := .idle, header := ⟨0, 0, 0⟩, lastFrame := 0, lastRow := none, arrived := 0, accepted := 0
    dropped := 0, firstDropped := none, anomalies := 0, strayReported := false, queue := []
    reserved := false, lines := Vector.replicate 32 none }

/-- R106. The fill list and the notices are empty: DESIGN CHOICE (log 7). -/
def Mapper.resetValue : Mapper :=
  { copySlot := 0, copy := identityLayout, postureInEffect := .unset, frameOpen := false
    frameInHand := none, lastFrame := 0, lineInHand := none, waitingRun := none, fillList := []
    cursor := none, repaintPending := true, zoneRequests := PerZone.same false, changeNotice := false
    guardHeld := .blank, notices := [] }

/-- A table or a buffer at unity gain (R119). -/
def unityGains : Vector Nat 72 := Vector.replicate 72 1024

/-- R119. -/
def GainUnit.resetValue : GainUnit :=
  { flat := unityGains, fold := unityGains, foldPt := 256, flatPt := 1920
    buffers := Vector.replicate 2 ⟨unityGains, 0⟩, current := 1 }

/-- The slowest profile (R139). -/
def slowestProfile : Profile := ⟨3, 3, 3⟩

/-- R139. The profile in use is the slowest one: DESIGN CHOICE (log 7). -/
def Engine.resetValue : Engine :=
  { queues := PerZone.same [], pointer := .back, phase := .idle, inTransfer := none
    profileInUse := slowestProfile, lastClose := none, holdCount := 0
    profiles := PerZone.same slowestProfile, faultFlags := PerZone.same false }

/-- R154. -/
def EmissionUnit.resetValue : EmissionUnit :=
  { zones := PerZone.same ⟨0, 0, 0, 0, .live⟩, period := 2048, pendingPeriod := none, fadeStep := 16
    latch := false }

/-- R162. -/
def LinkGuard.resetValue : LinkGuard :=
  { state := .blank, timer := none, holdCode := 8, blankCode := 31, tick := 0 }

/-- R171. -/
def Control.resetValue : Control := { queue := [], overrun := false }

/-- R179. The mask enables kinds 1 to 6. -/
def Reports.resetValue : Reports :=
  { records := [], lostPending := false, attnMask := 0x7E, attnMode := .level, pulse := none }

/-- The address limit that the NVSZ strap sets (R180). -/
def addressLimit (nvszHigh : Bool) : Nat := if nvszHigh then 65535 else 8191

/-- R185: the loader starts RUNNING, with the marker as its first read (R181). -/
def Loader.resetValue (nvszHigh : Bool) : Loader :=
  { running := true, cursor := 0, sectionStart := 0, applied := 0, failed := 0, failureNoted := false
    lastOutcome := .none, limit := addressLimit nvszHigh, phase := .marker }

/-- The first request of a loader run: one byte at address 0 (R181). -/
def markerRequest : Request := .nvm 0 1

/-- The side bus master once the loader, RUNNING at reset, has made its first request: the request enters the slot in
WAITING and the total timer starts (R63, R52). -/
def SideBus.afterFirstRequest : SideBus := { SideBus.resetValue with slot := .waiting markerRequest }

/-- The pins at the machine's start: ESTOP inactive and NVSZ low, nothing sent. DESIGN CHOICE (log 6, log 29). -/
def Outside.atStart : Outside :=
  { estop := false, nvszHigh := false, lineFrom := none, returnLane := [], sideBus := [], panelBus := [] }

end Sys2Proof.Machine
end

