-- ==== Sys2Proof/Machine/State.lean ====
section
/-! DEFINITION. The state of the FL420, as plain data, and its value right after reset. -/

namespace Sys2Proof.Machine

/-- Why a step stops with a fault: no command of the block does (INVENTORY, Faults). A bus fault, a driver fault, a
lost sensor or an emergency stop is an effect on State. -/
inductive Fault where
deriving DecidableEq, Repr

/-- Why a step is refused. -/
inductive Refusal where
  /-- Raised by exec alone, for a command that has no meaning yet. Safe: the machine stops. -/
  | notModelled (mnemonic : String)
deriving DecidableEq, Repr

/-- The whole part: one field a block (00, Block diagram), what lies outside (with one field of the model's own,
`lineFrom`), and the model's own two fields. -/
structure State where
  store : LayoutStore
  posture : PostureUnit
  bus : SideBus
  intake : Intake
  mapper : Mapper
  gain : GainUnit
  engine : Engine
  emission : EmissionUnit
  guard : LinkGuard
  control : Control
  reports : Reports
  loader : Loader
  outside : Outside
  /-- the MODEL's own: how many times free values have been used (log 1) -/
  freeIndex : Nat
  /-- the commands that wait, first in, first out -/
  pending : List Instr
deriving DecidableEq, Repr

/-- The machine right after reset: every block at its reset table, and the loader's first request made in the same
event (R180, R52, R63; log 5). -/
def State.reset : State :=
  { store := LayoutStore.resetValue
    posture := PostureUnit.resetValue
    bus := SideBus.afterFirstRequest
    intake := Intake.resetValue
    mapper := Mapper.resetValue
    gain := GainUnit.resetValue
    engine := Engine.resetValue
    emission := EmissionUnit.resetValue
    guard := LinkGuard.resetValue
    control := Control.resetValue
    reports := Reports.resetValue
    loader := Loader.resetValue false
    outside := Outside.atStart
    freeIndex := 0
    pending := [] }

/-- What a command answers. -/
abbrev Result := Host.Outcome State Fault Refusal

end Sys2Proof.Machine
end

