-- ==== Sys2Proof/Machine/Operands.lean ====
section
/-! DEFINITION. The byte layouts of R172 and 10.5: how operands are read from bytes, and how responses, records and
entries are built as bytes. Every value of more than one byte is sent high byte first. -/

namespace Sys2Proof.Machine

/-! ### Bytes -/

/-- A value that fits 0 to 255 takes one byte (R172). -/
def byteOf (n : Nat) : Byte := BitVec.ofNat 8 n

/-- Any other value takes two bytes, high byte first (R172). -/
def wordBytes (n : Nat) : List Byte := [byteOf (n / 256), byteOf n]

/-- The 32-bit tick, high byte first (R168, R172). -/
def tickBytes (t : BitVec 32) : List Byte := wordBytes (t.toNat / 65536) ++ wordBytes t.toNat

/-- A two-byte value, high byte first. -/
def be16 (hi lo : Byte) : Nat := hi.toNat * 256 + lo.toNat

/-- A signed two-byte value, in two's complement (R172). -/
def signed16 (hi lo : Byte) : Int := (hi ++ lo).toInt

/-- The two-byte values of a list of bytes, in order. -/
def be16s : List Byte → List Nat
  | hi :: lo :: rest => be16 hi lo :: be16s rest
  | _ => []

/-- A flag as a byte, 0 or 1 (10.5 gives the codes of the estop latch, not of the sensor-lost flag: log 30). -/
def boolByte (b : Bool) : Byte := if b then 1 else 0

/-- A flag at a bit position. -/
def bitAt (b : Bool) (n : Nat) : Nat := if b then 2 ^ n else 0

/-! ### Codes (R172) -/

def Zone.code : Zone → Nat
  | .front => 0
  | .spine => 1
  | .back => 2

def Zone.ofCode? : Nat → Option Zone
  | 0 => some .front
  | 1 => some .spine
  | 2 => some .back
  | _ => none

def ZoneMode.code : ZoneMode → Nat
  | .live => 0
  | .hold => 1
  | .dark => 2

def ZoneMode.ofCode? : Nat → Option ZoneMode
  | 0 => some .live
  | 1 => some .hold
  | 2 => some .dark
  | _ => none

def SlotState.code : SlotState → Nat
  | .empty => 0
  | .editing => 1
  | .ready => 2

def Posture.code : Posture → Nat
  | .unset => 0
  | .opened => 1
  | .bent => 2
  | .closedFront => 3
  | .closedBack => 4

/-- The posture operand of MAP_SET carries the codes 1 to 4; a code of 0 fails its test 1 (10.5). -/
def Posture.ofMapCode? : Nat → Option Posture
  | 1 => some .opened
  | 2 => some .bent
  | 3 => some .closedFront
  | 4 => some .closedBack
  | _ => none

def Facing.code : Facing → Nat
  | .front => 0
  | .back => 1

def Facing.ofCode? : Nat → Option Facing
  | 0 => some .front
  | 1 => some .back
  | _ => none

def GuardState.code : GuardState → Nat
  | .live => 0
  | .hold => 1
  | .blank => 2

def Status.code : Status → Nat
  | .ok => 0
  | .busy => 1
  | .range => 2
  | .state => 3
  | .inUse => 4
  | .checkFailed => 5
  | .unknown => 6
  | .length => 7

def LoadOutcome.code : LoadOutcome → Nat
  | .none => 0
  | .complete => 1
  | .partialLoad => 2
  | .noImage => 3
  | .format => 4
  | .overflow => 5
  | .busFault => 6

def FaultCode.code : FaultCode → Nat
  | .sensorLost => 1
  | .sensorBack => 2
  | .driverReject => 3
  | .driverStuck => 4
  | .estop => 5

def ReportKind.code : ReportKind → Nat
  | .posture => 1
  | .applied => 2
  | .guardChange => 3
  | .intake => 4
  | .fault => 5
  | .loader => 6

def AttnMode.ofCode? : Nat → Option AttnMode
  | 0 => some .level
  | 1 => some .pulse
  | _ => none

/-- The driver fault flags: F bit 0, S bit 1, K bit 2 (10.5). That bits 7 to 3 read 0 is a DESIGN CHOICE (log 30). -/
def flagsByte (p : PerZone Bool) : Byte := byteOf (bitAt p.front 0 + bitAt p.spine 1 + bitAt p.back 2)

/-! ### CTRL and RESP packets -/

/-- The tag is in bits 3 to 0 of the first byte; bits 7 to 4 are ignored (10.5). -/
def Packet.tag (p : Packet) : BitVec 4 := p.first.truncate 4

/-- A RESP packet as bytes: tag in bits 3 to 0 and OVERRUN in bit 7 of the first (10.5). That bits 6 to 4 are 0 is a
DESIGN CHOICE (log 30). -/
def Resp.bytes (r : Resp) : List Byte :=
  [byteOf (r.tag.toNat + bitAt r.overrun 7), byteOf r.status.code, byteOf r.data.length] ++ r.data

/-! ### Entries -/

/-- The codes of the three zone modes, FRONT, SPINE, BACK. -/
def modeBytes (m : PerZone ZoneMode) : List Byte :=
  [byteOf m.front.code, byteOf m.spine.code, byteOf m.back.code]

/-- Three zone modes from their codes; none when a value lies outside the codes (R10). -/
def parseModes (f s b : Byte) : Option (PerZone ZoneMode) :=
  match ZoneMode.ofCode? f.toNat, ZoneMode.ofCode? s.toNat, ZoneMode.ofCode? b.toNat with
  | some x, some y, some z => some ⟨x, y, z⟩
  | _, _, _ => none

/-- An entry's fields lie in the ranges of R6. -/
def Entry.inRange (e : Entry) : Bool :=
  decide (e.dst.col ≤ 1799 ∧ e.dst.row ≤ 2399 ∧ 2 ≤ e.dst.width ∧ e.dst.width ≤ 864 ∧ 1 ≤ e.dst.height
    ∧ e.dst.height ≤ 2400) &&
  match e.body with
  | .copy srcCol srcRow _ => decide (srcCol ≤ 1799 ∧ srcRow ≤ 2399)
  | .fill _ => true

/-- A colour component of 0 to 1023; none outside that range (R12). -/
def component (hi lo : Byte) : Option (BitVec 10) :=
  if be16 hi lo ≤ 1023 then some (BitVec.ofNat 10 (be16 hi lo)) else none

/-- A 20-byte entry record whose fields all lie in their ranges; none when any field that is tested lies outside
(R12). The fields that do not belong to the kind are not tested and not stored. -/
def parseEntry : List Byte → Option Entry
  | [kind, c1, c0, r1, r0, w1, w0, h1, h0, x1, x0, y1, y0, mirror, red1, red0, green1, green0, blue1, blue0] =>
    let dst : Rect := ⟨be16 c1 c0, be16 r1 r0, be16 w1 w0, be16 h1 h0⟩
    let body : Option EntryBody :=
      if kind = 0 then
        if mirror = 0 then some (.copy (be16 x1 x0) (be16 y1 y0) false)
        else if mirror = 1 then some (.copy (be16 x1 x0) (be16 y1 y0) true)
        else none
      else if kind = 1 then
        match component red1 red0, component green1 green0, component blue1 blue0 with
        | some r, some g, some b => some (.fill ⟨r, g, b⟩)
        | _, _, _ => none
      else none
    match body with
    | none => none
    | some body => if Entry.inRange ⟨dst, body⟩ then some ⟨dst, body⟩ else none
  | _ => none

/-- The entry record that SLOT_READ returns: 20 bytes, the fields of the other kind reading 0 (R20, 10.5). -/
def Entry.bytes (e : Entry) : List Byte :=
  let head := fun (kind : Byte) =>
    kind :: (wordBytes e.dst.col ++ wordBytes e.dst.row ++ wordBytes e.dst.width ++ wordBytes e.dst.height)
  match e.body with
  | .copy srcCol srcRow mirror =>
    head 0 ++ wordBytes srcCol ++ wordBytes srcRow ++ [boolByte mirror] ++ List.replicate 6 0
  | .fill c =>
    head 1 ++ List.replicate 5 0 ++ wordBytes c.r.toNat ++ wordBytes c.g.toNat ++ wordBytes c.b.toNat

/-- A number of entry records one after another; none when one of them fails its range tests. -/
def parseEntries : Nat → List Byte → Option (List Entry)
  | 0, _ => some []
  | n + 1, bytes =>
    match parseEntry (bytes.take 20), parseEntries n (bytes.drop 20) with
    | some e, some es => some (e :: es)
    | _, _ => none

/-! ### Report records -/

/-- The kind of a record (R175). -/
def ReportBody.kind : ReportBody → ReportKind
  | .posture .. => .posture
  | .applied .. => .applied
  | .guardChange .. => .guardChange
  | .intake .. => .intake
  | .fault .. => .fault
  | .loader .. => .loader

/-- The size of a record in bytes (R175). -/
def ReportKind.size : ReportKind → Nat
  | .posture | .applied | .guardChange => 8
  | .intake | .fault | .loader => 16

/-- The size of a record with this body. -/
def ReportBody.size (b : ReportBody) : Nat := b.kind.size

/-- The per-kind flags, in bits 0 to 3 of the flags byte (10.5). That those a kind does not use are 0 is a DESIGN CHOICE
(log 30). -/
def ReportBody.flags : ReportBody → Nat
  | .posture _ _ _ initial face => bitAt initial 0 + bitAt face 1
  | .applied _ _ _ slotChanged forced standalone sourceShort =>
    bitAt slotChanged 0 + bitAt forced 1 + bitAt standalone 2 + bitAt sourceShort 3
  | .intake _ _ _ _ firstDropped => bitAt firstDropped.isSome 0
  | .guardChange .. | .fault .. | .loader .. => 0

/-- The body of a record from offset 4 on; bytes a kind does not use read 0 (10.5). -/
def ReportBody.bytes : ReportBody → List Byte
  | .posture new previous f _ _ => [byteOf new.code, byteOf previous.code] ++ wordBytes f
  | .applied slot p frame _ _ _ _ => [byteOf slot.val, byteOf p.code] ++ wordBytes frame.toNat
  | .guardChange new previous => [byteOf new.code, byteOf previous.code, 0, 0]
  | .intake frame anomalies accepted dropped firstDropped =>
    wordBytes frame.toNat ++ wordBytes anomalies.toNat ++ wordBytes accepted ++ wordBytes dropped
      ++ wordBytes (firstDropped.getD 0) ++ [0, 0]
  | .fault code driver row f =>
    [byteOf code.code, byteOf driver.code] ++ wordBytes row ++ wordBytes f ++ List.replicate 6 0
  | .loader outcome nApplied nFailed address =>
    [byteOf outcome.code, 0] ++ wordBytes nApplied ++ wordBytes nFailed ++ wordBytes address
      ++ List.replicate 4 0

/-- A record as bytes: kind, flags with LOST in bit 7, timestamp, body (10.5). That bits 6 to 4 of the flags are 0 is a
DESIGN CHOICE (log 30). -/
def Record.bytes (r : Record) : List Byte :=
  [byteOf r.body.kind.code, byteOf (r.body.flags + bitAt r.lost 7)] ++ wordBytes r.stamp.toNat ++ r.body.bytes

/-- The NONE record that REPORT_READ returns on an empty queue: timestamp as given, flags clear, body 0 (R176). -/
def noneRecordBytes (stamp : Word16) : List Byte := [0, 0] ++ wordBytes stamp.toNat ++ [0, 0, 0, 0]

/-! ### The operands of ANGLE_SET -/

/-- The 13 operand bytes of ANGLE_SET, checked as a whole; none is RANGE. A k above 5 is taken as 5 and a dwell of 0
as 1 (R45). -/
def parseAngleConfig : List Byte → Option AngleConfig
  | [rate, k, ce1, ce0, cx1, cx0, ox1, ox0, oe1, oe0, dwell, address, register] =>
    let t : Thresholds := ⟨be16 ce1 ce0, be16 cx1 cx0, be16 ox1 ox0, be16 oe1 oe0⟩
    if rate.toNat ≤ 3
        ∧ t.closedEnter ≤ 2048 ∧ t.closedExit ≤ 2048 ∧ t.openExit ≤ 2048 ∧ t.openEnter ≤ 2048
        ∧ t.closedEnter < t.closedExit ∧ t.closedExit ≤ t.openExit ∧ t.openExit < t.openEnter
        ∧ address.toNat ≤ 127 then
      some
        { rate := rate.toNat, k := min k.toNat 5, thresholds := t, dwell := max dwell.toNat 1
          sensorAddress := address.truncate 7, sensorRegister := register }
    else none
  | _ => none

/-- The 13 operand bytes as stored, which the response to ANGLE_SET carries (R45, 10.5). -/
def AngleConfig.bytes (c : AngleConfig) : List Byte :=
  [byteOf c.rate, byteOf c.k] ++ wordBytes c.thresholds.closedEnter ++ wordBytes c.thresholds.closedExit
    ++ wordBytes c.thresholds.openExit ++ wordBytes c.thresholds.openEnter
    ++ [byteOf c.dwell, c.sensorAddress.zeroExtend 8, c.sensorRegister]

/-- A calibration offset in its range; none is RANGE (R47). -/
def parseOffset (hi lo : Byte) : Option Int :=
  if -2048 ≤ signed16 hi lo ∧ signed16 hi lo ≤ 2047 then some (signed16 hi lo) else none

end Sys2Proof.Machine
end

