-- ==== Sys2Proof/Machine/Flags.lean ====
section
/-! DEFINITION. What is computed from State: occupancy and counts of the report queue, the anomaly bits, the ATTN line,
the effective emission targets and the three emission outputs, the driver selects, and the GRAM view. -/

namespace Sys2Proof.Machine

/-! ### Report queue (R173) -/

/-- The occupancy: the sum of the sizes of the records held (R173). -/
def Reports.occupancy (q : Reports) : Nat := (q.records.map fun r => r.body.size).sum

/-- The free space: 512 minus the occupancy (R173). -/
def Reports.freeSpace (q : Reports) : Nat := 512 - q.occupancy

/-- The number of records of one kind held (R173). -/
def Reports.countOf (q : Reports) (k : ReportKind) : Nat := q.records.countP fun r => r.body.kind = k

/-- Bit n of the mask enables kind n (R177). -/
def Reports.enabled (q : Reports) (k : ReportKind) : Bool := q.attnMask.getLsbD k.code

/-- The kinds a record can have. -/
def allKinds : List ReportKind := [.posture, .applied, .guardChange, .intake, .fault, .loader]

/-- The ATTN line. In LEVEL mode it is high when at least one record of an enabled kind is held (R177); in PULSE mode it
is high during a pulse (R178). -/
def Reports.attn (q : Reports) : Bool :=
  match q.attnMode with
  | .level => allKinds.any fun k => q.enabled k && decide (0 < q.countOf k)
  | .pulse => q.pulse.isSome

/-! ### Anomalies (R78, R172) -/

/-- The anomalies that a frame can collect, and the stray line (R78). -/
inductive Anomaly where
  | badGeometry
  | frameRefused
  | truncated
  | missing
  | rowRange
  | rowOrder
  | linesDropped
  | shortLine
  | strayLine
deriving DecidableEq, Repr

/-- An anomaly's bit (10.5). That bits 15 to 9 of the set are 0 is a DESIGN CHOICE (log 30). -/
def Anomaly.bit : Anomaly → BitVec 16
  | .badGeometry => 0x001
  | .frameRefused => 0x002
  | .truncated => 0x004
  | .missing => 0x008
  | .rowRange => 0x010
  | .rowOrder => 0x020
  | .linesDropped => 0x040
  | .shortLine => 0x080
  | .strayLine => 0x100

/-! ### Emission (R140, R143) -/

/-- A zone's effective target: its commanded level, or 0 while the zone is DARK, the guard is BLANK or the estop latch
is set (R143). -/
def State.effectiveTarget (s : State) (z : Zone) : Nat :=
  if (s.emission.zones.get z).mode = .dark ∨ s.guard.state = .blank ∨ s.emission.latch = true then 0
  else (s.emission.zones.get z).commanded

/-- A zone's output: on while its period counter is less than its on-count and the estop latch is clear (R140). -/
def EmissionUnit.output (e : EmissionUnit) (z : Zone) : Bool :=
  decide ((e.zones.get z).counter < (e.zones.get z).onCount) && !e.latch

/-! ### Panel bus (R126, R127, R129) -/

/-- The driver whose select is driven: that of the run in transfer, in WINDOW and in DATA (R126, R127, R128, R129). -/
def Engine.selected (e : Engine) : Option Driver :=
  match e.phase with
  | .window | .data => e.inTransfer.map (·.driver)
  | .idle | .turnaround _ | .retry _ => none

/-- The pixel a transfer wrote at a row and driver column of a driver, if it wrote one. -/
def PanelTransfer.pixelAt (t : PanelTransfer) (d : Driver) (row col : Nat) : Option Pixel :=
  match t with
  | .pixels d' row' first ps => if d' = d ∧ row' = row ∧ first ≤ col then ps[col - first]? else none
  | .window .. => none

/-- A pixel of a driver's GRAM as far as the FL420 has written it: the pixel of the last transfer that covered it, or
none where the FL420 has written nothing (R130, R131, log 13). -/
def gramAt (log : List PanelTransfer) (d : Driver) (row col : Nat) : Option Pixel :=
  log.reverse.findSome? fun t => t.pixelAt d row col

end Sys2Proof.Machine
end

