-- ==== Sys2Proof/Machine/Ops.lean ====
section
/-! DEFINITION. The operations that several blocks share: offering a report record, sending a RESP and taking a CTRL
packet's turn, notices to the mapper, side bus requests, and the references that runs hold. -/

namespace Sys2Proof.Machine

/-! ### Report records -/

/-- The length of an ATTN pulse: 1 µs, in nanoseconds (R178). -/
def pulseLength : Nat := 1000

/-- A record is offered to the report queue: admitted at the tail with the timestamp and the LOST flag when it fits,
else lost (R174). In PULSE mode the admission of a record of an enabled kind starts a pulse, or restarts the one in
progress (R178). -/
def Reports.offer (q : Reports) (tick : BitVec 32) (b : ReportBody) : Reports :=
  if b.size ≤ q.freeSpace then
    { q with
      records := q.records ++ [⟨b, q.lostPending, tick.truncate 16⟩]
      lostPending := false
      pulse := if q.attnMode = .pulse ∧ q.enabled b.kind = true then some pulseLength else q.pulse }
  else { q with lostPending := true }

/-- A block offers a record (R174). -/
def State.offer (s : State) (b : ReportBody) : State :=
  { s with reports := s.reports.offer s.guard.tick b }

/-! ### Notices -/

/-- A notice is handed to the mapper; it waits until the mapper acts on it (R83). -/
def State.notify (s : State) (n : Notice) : State :=
  { s with mapper := { s.mapper with
      notices := s.mapper.notices ++ [n] } }

/-! ### CTRL packets and RESP packets -/

/-- The RESP of the packet at the head of the command queue is sent: it carries the packet's tag and OVERRUN as it
stands, sending it clears OVERRUN, and the packet leaves the queue (R164, R166). -/
def State.respond (s : State) (status : Status) (data : List Byte) : State :=
  match s.control.queue with
  | [] => s
  | p :: rest =>
    { s with
      control := ⟨rest, false⟩
      outside := { s.outside with
        returnLane := s.outside.returnLane ++ [⟨p.tag, s.control.overrun, status, data⟩] } }

/-- What the owning block makes of a command: the status, the response data, and the state after. -/
structure Reply where
  status : Status
  data : List Byte
  after : State

/-- A command carried out (R166). -/
def Reply.done (data : List Byte) (after : State) : Reply := ⟨.ok, data, after⟩

/-- A refused command changes no state and carries no data (R165, R166). -/
def Reply.refuse (status : Status) (s : State) : Reply := ⟨status, [], s⟩

/-- What the control unit's first three tests find for a command (R165). -/
inductive Turn where
  /-- the oldest packet is not this command's, or there is none -/
  | notDue
  /-- test 2 or test 3 fails -/
  | refused (status : Status)
  /-- the owning chapter's tests come next, with these operand bytes -/
  | granted (operands : List Byte)

/-- The turn of a command: its packet is the oldest of the command queue (R165); then the operand byte count must
equal the number of bytes delivered and fit the command (LENGTH), and the loader must be IDLE unless the command is
exempt (BUSY, R167). -/
def State.turn (s : State) (code : Byte) (fits : List Byte → Bool) (exempt : Bool) : Turn :=
  match s.control.queue with
  | [] => .notDue
  | p :: _ =>
    if p.code ≠ code then .notDue
    else if ¬ (p.count.toNat = p.operands.length ∧ fits p.operands = true) then .refused .length
    else if s.loader.running = true ∧ exempt = false then .refused .busy
    else .granted p.operands

/-- A command is carried out by the owning block and answered by one RESP (R165, R166). A command that is not the
oldest packet's has not its turn: nothing happens (log 2). -/
def State.carryOut (s : State) (code : Byte) (fits : List Byte → Bool) (exempt : Bool)
    (act : List Byte → State → Reply) : State :=
  match s.turn code fits exempt with
  | .notDue => s
  | .refused status => s.respond status []
  | .granted operands =>
    let reply := act operands s
    reply.after.respond reply.status reply.data

/-- The operand byte count of the command summary (10.4). -/
def lengthIs (n : Nat) (operands : List Byte) : Bool := decide (operands.length = n)

/-! ### Side bus requests (R52) -/

/-- A request enters an EMPTY slot at once in WAITING, with the total timer at 0; else it becomes the waiting request
(R52). -/
def SideBus.request (b : SideBus) (r : Request) : SideBus :=
  match b.slot with
  | .empty => { b with slot := .waiting r, totalTimer := 0 }
  | .waiting _ | .active _ => { b with waitingRequest := some r }

/-- The slot becomes EMPTY with both lines released; a waiting request enters it in WAITING at the same moment, its
total timer starting from 0 then (R52). The stopped timers read 0 (log 17). -/
def SideBus.emptySlot (b : SideBus) : SideBus :=
  { b with
    linesReleased := true
    slot := match b.waitingRequest with
      | none => .empty
      | some r => .waiting r
    waitingRequest := none
    totalTimer := 0
    stretchTimer := 0 }

/-- A block makes a request of the side bus master (R52). -/
def State.request (s : State) (r : Request) : State := { s with bus := s.bus.request r }

/-! ### Line slots (R67) -/

/-- A line slot becomes free at the event that leaves it with the hold released and a reference count of 0 (R67). -/
def LineSlot.settle (l : LineSlot) : Option LineSlot :=
  if l.hold = false ∧ l.refs = 0 then none else some l

/-- A change of one occupied line slot. A free slot stays free. -/
def Intake.changeLine (i : Intake) (n : Fin 32) (change : LineSlot → Option LineSlot) : Intake :=
  { i with lines := i.lines.set n (i.lines[n].bind change) }

/-- A run placed on a queue takes a reference to its line slot (R67). -/
def Intake.addLineRef (i : Intake) (n : Fin 32) : Intake :=
  i.changeLine n fun l => some { l with refs := l.refs + 1 }

/-- A run that finishes or is dropped releases its reference (R67). -/
def Intake.releaseLineRef (i : Intake) (n : Fin 32) : Intake :=
  i.changeLine n fun l => LineSlot.settle { l with refs := l.refs - 1 }

/-- The mapper releases its hold (R67, R92). -/
def Intake.releaseHold (i : Intake) (n : Fin 32) : Intake :=
  i.changeLine n fun l => LineSlot.settle { l with hold := false }

/-! ### Snapshot references (R113, R114) -/

/-- A change of one snapshot buffer's reference count. -/
def GainUnit.changeRefs (g : GainUnit) (n : Fin 2) (change : Nat → Nat) : GainUnit :=
  { g with buffers := g.buffers.set n { g.buffers[n] with refs := change g.buffers[n].refs } }

/-! ### Run queues (R121) -/

/-- A queue has room when it holds fewer than 8 runs (R91, R95, R121). -/
def Engine.hasRoom (e : Engine) (d : Driver) : Bool := decide ((e.queues.get d).length < 8)

/-- The line slot and the snapshot that a run references (R120). -/
def RunSource.lineSlot? : RunSource → Option (Fin 32)
  | .copy n _ _ _ _ => some n
  | .fill _ => none

/-- See `RunSource.lineSlot?`. -/
def RunSource.snapshot? : RunSource → Option (Fin 2)
  | .copy _ _ _ _ g => g
  | .fill _ => none

/-- A change of the references that a run holds: its line slot's and its snapshot's (R120). -/
def State.changeRunRefs (s : State) (r : Run) (onLine : Intake → Fin 32 → Intake)
    (onSnapshot : GainUnit → Fin 2 → GainUnit) : State :=
  { s with
    intake := match r.source.lineSlot? with
      | some n => onLine s.intake n
      | none => s.intake
    gain := match r.source.snapshot? with
      | some n => onSnapshot s.gain n
      | none => s.gain }

/-- A run is placed at the tail of its driver's queue, and takes its references (R89, R113, R121). -/
def State.placeRun (s : State) (r : Run) : State :=
  let s := s.changeRunRefs r Intake.addLineRef fun g n => g.changeRefs n (· + 1)
  { s with engine := { s.engine with
      queues := s.engine.queues.set r.driver (s.engine.queues.get r.driver ++ [r]) } }

/-- A run that ends releases its references (R130, R132). -/
def State.releaseRunRefs (s : State) (r : Run) : State :=
  s.changeRunRefs r Intake.releaseLineRef fun g n => g.changeRefs n (· - 1)

end Sys2Proof.Machine
end

