-- ==== Sys2Proof/Machine/Emission.lean ====
section
/-! DEFINITION. Chapter 8, Emission Control: period ends, fading, the emergency stop, and its commands. -/

namespace Sys2Proof.Machine

/-- The current level moved toward its target by the fade step (R145). -/
def fade (current target step : Nat) : Nat :=
  if current < target then min (current + step) target
  else if target < current then max (current - step) target
  else current

/-- The on-count of a level (R142). -/
def onCountOf (current period : Nat) : Nat := (current * period + 511) / 1023

/-- A zone at a period end: faded, its on-count computed with the period in force, its counter at 0 (R140, R141). -/
def ZoneEmission.atPeriodEnd (z : ZoneEmission) (target step period : Nat) : ZoneEmission :=
  { z with
    current := fade z.current target step
    onCount := onCountOf (fade z.current target step) period
    counter := 0 }

/-- PERIOD_END (R141): the three zones fade, their on-counts are computed, and a pending period is taken. -/
def execPeriodEnd (s : State) : Result :=
  let e := s.emission
  let zone := fun z => (e.zones.get z).atPeriodEnd (s.effectiveTarget z) e.fadeStep e.period
  .next { s with emission := { e with
    zones := ⟨zone .front, zone .spine, zone .back⟩
    period := e.pendingPeriod.getD e.period
    pendingPeriod := none } }

/-- The mapper hands its frame copy's zone modes to the emission unit (R144). -/
def EmissionUnit.takeModes (e : EmissionUnit) (modes : PerZone ZoneMode) : EmissionUnit :=
  { e with zones :=
      ⟨{ e.zones.front with mode := modes.front }, { e.zones.spine with mode := modes.spine },
        { e.zones.back with mode := modes.back }⟩ }

/-! ### Emergency stop (R149 to R151) -/

/-- A zone whose current level and on-count are set to 0 by ESTOP (R149). -/
def ZoneEmission.stopped (z : ZoneEmission) : ZoneEmission := { z with current := 0, onCount := 0 }

/-- Whenever ESTOP is active and the latch is clear: the latch is set, every current level and on-count becomes 0, and
a FAULT record is offered (R149). -/
def State.estopActs (s : State) : State :=
  if s.outside.estop = true ∧ s.emission.latch = false then
    State.offer
      { s with emission := { s.emission with latch := true, zones := s.emission.zones.map ZoneEmission.stopped } }
      (.fault .estop .front 0 s.posture.f)
  else s

/-- ESTOP_ASSERTED (R149, R150). -/
def execEstopAsserted (s : State) : Result :=
  .next (State.estopActs { s with outside := { s.outside with estop := true } })

/-- ESTOP_RELEASED: the latch stays as it is (R150). -/
def execEstopReleased (s : State) : Result := .next { s with outside := { s.outside with estop := false } }

/-! ### Commands (R146 to R148) -/

/-- A commanded level is stored, at most 1023 (R146). -/
def EmissionUnit.setLevel (e : EmissionUnit) (z : Zone) (level : Nat) : EmissionUnit :=
  { e with zones := e.zones.set z { e.zones.get z with commanded := min level 1023 } }

/-- The pending period is set, clamped to 64 to 4096 (R148). -/
def clampPeriod (period : Nat) : Nat := max 64 (min period 4096)

/-- The fade step is clamped to 1 to 1023 (R147). -/
def clampStep (step : Nat) : Nat := max 1 (min step 1023)

/-- EMIT_SET(zone, level) (R146). -/
def emitSetAction : List Byte → State → Reply
  | [z, hi, lo], s =>
    match Zone.ofCode? z.toNat with
    | none => .refuse .range s
    | some zone =>
      .done (z :: wordBytes (min (be16 hi lo) 1023)) { s with emission := s.emission.setLevel zone (be16 hi lo) }
  | _, s => .refuse .length s

/-- EMIT_SET (R146). -/
def execEmitSet (s : State) : Result := .next (s.carryOut 0x40 (lengthIs 3) false emitSetAction)

/-- EMIT_PERIOD(period) (R148). -/
def emitPeriodAction : List Byte → State → Reply
  | [hi, lo], s =>
    .done (wordBytes (clampPeriod (be16 hi lo)))
      { s with emission := { s.emission with pendingPeriod := some (clampPeriod (be16 hi lo)) } }
  | _, s => .refuse .length s

/-- EMIT_PERIOD (R148). -/
def execEmitPeriod (s : State) : Result := .next (s.carryOut 0x41 (lengthIs 2) false emitPeriodAction)

/-- EMIT_FADE(step) (R147). -/
def emitFadeAction : List Byte → State → Reply
  | [hi, lo], s =>
    .done (wordBytes (clampStep (be16 hi lo)))
      { s with emission := { s.emission with fadeStep := clampStep (be16 hi lo) } }
  | _, s => .refuse .length s

/-- EMIT_FADE (R147). -/
def execEmitFade (s : State) : Result := .next (s.carryOut 0x42 (lengthIs 2) false emitFadeAction)

end Sys2Proof.Machine
end

