-- ==== Sys2Proof/Machine/Guard.lean ====
section
/-! DEFINITION. Chapter 9, Link Supervision: the guard's states and timer, and the millisecond tick. -/

namespace Sys2Proof.Machine

/-- The hold limit (R156). -/
def holdLimit (holdCode : Nat) : Nat := holdCode * 16

/-- The blank limit (R156). -/
def blankLimit (blankCode : Nat) : Nat := blankCode * 64

/-- The timer of a state, started at 0 against its limit, or stopped (R156). -/
def freshTimer (state : GuardState) (holdCode blankCode : Nat) : Option GuardTimer :=
  match state with
  | .live => if holdCode = 0 then none else some ⟨0, holdLimit holdCode⟩
  | .hold => some ⟨0, blankLimit blankCode⟩
  | .blank => none

/-- The timer restarts for the present state. -/
def LinkGuard.restartTimer (g : LinkGuard) : LinkGuard :=
  { g with timer := freshTimer g.state g.holdCode g.blankCode }

/-- A change of guard state: the timer of the new state, a GUARD record, and the new state handed to the mapper; the
emission unit reads it at once (R158, R159). -/
def State.changeGuard (s : State) (new : GuardState) : State :=
  let previous := s.guard.state
  let s := { s with guard := LinkGuard.restartTimer { s.guard with state := new } }
  (s.offer (.guardChange new previous)).notify (.guardState new)

/-- An FOPEN arrival (R157): in LIVE the timer restarts; in HOLD or BLANK the state becomes LIVE. -/
def State.fopenArrival (s : State) : State :=
  match s.guard.state with
  | .live => { s with guard := s.guard.restartTimer }
  | .hold | .blank => s.changeGuard .live

/-- A running timer increases by 1 at each tick increment, up to its limit (R156). DESIGN CHOICE (log 28): a timer that
stands at its limit, its expiry not yet taken, stays there at a further increment. -/
def GuardTimer.advance (t : GuardTimer) : GuardTimer := { t with count := min (t.count + 1) t.limit }

/-- TICK (R155, R156). -/
def execTick (s : State) : Result :=
  .next { s with guard := { s.guard with
    tick := s.guard.tick + 1, timer := s.guard.timer.map GuardTimer.advance } }

/-- The timer has been brought to its limit (R156). -/
def LinkGuard.expired (g : LinkGuard) : Bool :=
  match g.timer with
  | some t => decide (t.limit ≤ t.count)
  | none => false

/-- GUARD_TIMER_EXPIRY: LIVE becomes HOLD, HOLD becomes BLANK (R158). -/
def execGuardTimerExpiry (s : State) : Result :=
  if s.guard.expired = true then
    match s.guard.state with
    | .live => .next (s.changeGuard .hold)
    | .hold => .next (s.changeGuard .blank)
    | .blank => .next s
  else .next s

/-- The codes are stored, a blank code of 0 as 1, and the running timer restarts against the new limit (R160). -/
def LinkGuard.setCodes (g : LinkGuard) (holdCode blankCode : Nat) : LinkGuard :=
  LinkGuard.restartTimer { g with holdCode := holdCode, blankCode := max blankCode 1 }

/-- GUARD_SET(hold code, blank code) (R160). -/
def guardSetAction : List Byte → State → Reply
  | [h, b], s =>
    let g := s.guard.setCodes h.toNat b.toNat
    .done [byteOf g.holdCode, byteOf g.blankCode] { s with guard := g }
  | _, s => .refuse .length s

/-- GUARD_SET (R160). -/
def execGuardSet (s : State) : Result := .next (s.carryOut 0x50 (lengthIs 2) false guardSetAction)

end Sys2Proof.Machine
end

