-- ==== Sys2Proof/Machine/FrameIntake.lean ====
section
/-! DEFINITION. Chapter 4, Frame Intake: FOPEN, LINE, FCLOSE and packets of other kinds. -/

namespace Sys2Proof.Machine

/-- The capacity of the intake queue (R66). -/
def intakeCapacity : Nat := 40

/-- The free items: 40 less the items held and less the reservation (R66). -/
def Intake.freeItems (i : Intake) : Nat := intakeCapacity - (i.queue.length + if i.reserved then 1 else 0)

/-- The lowest-numbered free line slot (R67). -/
def Intake.lowestFree (i : Intake) : Option (Fin 32) := (List.finRange 32).find? fun n => i.lines[n].isNone

/-- An anomaly is added to the frame's set (R78). -/
def Intake.addAnomaly (i : Intake) (a : Anomaly) : Intake := { i with anomalies := i.anomalies ||| a.bit }

/-- A count that stops at 65535 (R65). -/
def countUp (n : Nat) : Nat := min (n + 1) 65535

/-- The frame's FRAME_END takes the reserved item (R66). -/
def Intake.placeFrameEnd (i : Intake) : Intake := { i with queue := i.queue ++ [.frameEnd], reserved := false }

/-- A line of the frame is discarded: lines dropped rises, and the first dropped row is set if it is none (R73, R74). -/
def Intake.dropLine (i : Intake) (row : Nat) : Intake :=
  { i with dropped := countUp i.dropped, firstDropped := some (i.firstDropped.getD row) }

/-- The INTAKE record of a frame that ends, offered if its anomaly set is not empty (R78). -/
def State.offerIntake (s : State) : State :=
  let i := s.intake
  if i.anomalies = 0 then s
  else s.offer (.intake i.header.number i.anomalies i.accepted i.dropped i.firstDropped)

/-! ### FOPEN (R65, R68 to R71) -/

/-- An FOPEN ends the frame that is open: as truncated, with its FRAME_END placed if it was accepted, and its record
offered (R69, R70). -/
def State.truncateFrame (s : State) : State :=
  match s.intake.state with
  | .idle => s
  | .receiving => State.offerIntake { s with intake := (s.intake.addAnomaly .truncated).placeFrameEnd }
  | .refusing => State.offerIntake { s with intake := s.intake.addAnomaly .truncated }

/-- Every FOPEN sets the frame header and the last frame number, clears the counts, the rows and the anomaly set, and
clears the stray-reported flag (R65, R71). -/
def Intake.newHeader (i : Intake) (h : FrameHeader) : Intake :=
  { i with
    header := h, lastFrame := h.number, lastRow := none, arrived := 0, accepted := 0, dropped := 0
    firstDropped := none, anomalies := 0, strayReported := false }

/-- The two tests of a new frame (R68): geometry, then queue room. -/
def Intake.openFrame (i : Intake) (h : FrameHeader) : Intake :=
  let i := i.newHeader h
  if ¬ (1 ≤ h.width ∧ h.width ≤ 1800 ∧ 1 ≤ h.height ∧ h.height ≤ 2400) then
    { i.addAnomaly .badGeometry with state := .refusing }
  else if i.freeItems < 2 then { i.addAnomaly .frameRefused with state := .refusing }
  else
    { i with
      state := .receiving, reserved := true
      queue := i.queue ++ [.frameStart h.number h.width h.height] }

/-- FOPEN: the open frame is ended, the new one is opened, and the link guard takes the arrival (R68 to R71). -/
def execFopen (frame width height : Word16) (s : State) : Result :=
  let s := s.truncateFrame
  let s := { s with intake := s.intake.openFrame ⟨frame, width.toNat, height.toNat⟩ }
  .next s.fopenArrival

/-! ### LINE (R72 to R75) -/

/-- What the line slot holds: exactly W pixels, the payload cut or padded with black (R75). -/
def fitLine (w : Nat) (payload : List Pixel) : List Pixel :=
  payload.take w ++ List.replicate (w - payload.length) Pixel.black

/-- A LINE in IDLE: the first of a gap gives a STRAY_LINE record (R72). -/
def State.strayLine (s : State) (row : Nat) : State :=
  if s.intake.strayReported = true then s
  else
    State.offer { s with intake := { s.intake with strayReported := true } }
      (.intake s.intake.lastFrame Anomaly.strayLine.bit 0 1 (some row))

/-- An accepted LINE: its slot is taken with the hold set, its item placed, and the counts follow (R67, R75). -/
def Intake.acceptLine (i : Intake) (n : Fin 32) (row : Nat) (payload : List Pixel) : Intake :=
  let i := if payload.length < i.header.width then i.addAnomaly .shortLine else i
  { i with
    lines := i.lines.set n (some ⟨fitLine i.header.width payload, true, 0⟩)
    queue := i.queue ++ [.line n row]
    lastRow := some row
    accepted := i.accepted + 1 }

/-- A LINE in RECEIVING: the three tests in order (R74). -/
def Intake.takeLine (i : Intake) (row : Nat) (payload : List Pixel) : Intake :=
  let i := { i with arrived := countUp i.arrived }
  if i.header.height ≤ row then (i.addAnomaly .rowRange).dropLine row
  else if i.lastRow.any (row ≤ ·) then (i.addAnomaly .rowOrder).dropLine row
  else if i.freeItems = 0 then (i.addAnomaly .linesDropped).dropLine row
  else match i.lowestFree with
    | none => (i.addAnomaly .linesDropped).dropLine row
    | some n => i.acceptLine n row payload

/-- LINE (R72, R73, R74). -/
def execLine (row : Word16) (payload : List Pixel) (s : State) : Result :=
  match s.intake.state with
  | .idle => .next (s.strayLine row.toNat)
  | .refusing =>
    .next { s with intake := Intake.dropLine { s.intake with arrived := countUp s.intake.arrived } row.toNat }
  | .receiving => .next { s with intake := s.intake.takeLine row.toNat payload }

/-! ### FCLOSE and other packets (R64, R76, R77) -/

/-- The lines-sent count is compared with lines arrived (R76, R77). -/
def Intake.compareLines (i : Intake) (linesSent : Nat) : Intake :=
  if linesSent = i.arrived then i else i.addAnomaly .missing

/-- FCLOSE (R76, R77). -/
def execFclose (linesSent : Word16) (s : State) : Result :=
  let i := s.intake.compareLines linesSent.toNat
  match s.intake.state with
  | .idle => .next s
  | .receiving => .next (State.offerIntake { s with intake := { i.placeFrameEnd with state := .idle } })
  | .refusing => .next (State.offerIntake { s with intake := { i with state := .idle } })

/-- OTHER_PACKET: a packet of any other kind is discarded; no state changes and no report is given (R64). -/
def execOtherPacket (s : State) : Result := .next s

end Sys2Proof.Machine
end

