-- ==== Sys2Proof/Machine/Layouts.lean ====
section
/-! DEFINITION. Chapter 1, Zones and Layouts: the check, the edit commands, readback and the posture maps. -/

namespace Sys2Proof.Machine

/-! ### The check (R15, R16, R17) -/

/-- Why the check of one entry fails (R15). -/
inductive EntryFault where
  | bounds
  | align
  | crossZone
  | zoneMode
deriving DecidableEq, Repr

/-- Why a layout fails the check, with the entry index or the zone (R18). -/
inductive CheckFailure where
  | entry (why : EntryFault) (index : Nat)
  | overlap (index : Nat)
  | gap (zone : Zone)
deriving DecidableEq, Repr

/-- The source rectangle of a COPY entry lies in the source space (R6, R15). -/
def Entry.sourceInRaster (e : Entry) : Bool :=
  match e.body with
  | .copy srcCol srcRow _ => Rect.inRaster ⟨srcCol, srcRow, e.dst.width, e.dst.height⟩
  | .fill _ => true

/-- The four tests of one entry, in order (R15). -/
def Entry.fault (modes : PerZone ZoneMode) (e : Entry) : Option EntryFault :=
  if ¬ (e.dst.inRaster = true ∧ e.sourceInRaster = true) then some .bounds
  else if e.dst.col % 2 = 1 ∨ e.dst.width % 2 = 1 then some .align
  else match e.dst.zone? with
    | none => some .crossZone
    | some z => if modes.get z = .live then none else some .zoneMode

/-- The first stage: the entries in list order, from an index on (R15). -/
def firstEntryFault (modes : PerZone ZoneMode) : List Entry → Nat → Option CheckFailure
  | [], _ => none
  | e :: es, i =>
    match e.fault modes with
    | some why => some (.entry why i)
    | none => firstEntryFault modes es (i + 1)

/-- The second stage: the lower index of the first overlapping pair (R16). -/
def firstOverlap : List Entry → Nat → Option CheckFailure
  | [], _ => none
  | e :: es, i => if es.any fun e' => e.dst.overlaps e'.dst then some (.overlap i) else firstOverlap es (i + 1)

/-- The area of the entries whose destination lies inside a zone (R17). -/
def areaInZone (entries : List Entry) (z : Zone) : Nat :=
  ((entries.filter fun e => e.dst.zone? = some z).map fun e => e.dst.area).sum

/-- The third stage: the first LIVE zone whose entries' areas do not sum to its area (R17). -/
def firstGap (l : Layout) : Option CheckFailure :=
  (allZones.find? fun z => decide (l.modes.get z = .live ∧ areaInZone l.entries z ≠ z.area)).map .gap

/-- The whole check: the first failure of the three stages, in order (R14, R18). -/
def Layout.check (l : Layout) : Option CheckFailure :=
  match firstEntryFault l.modes l.entries 0 with
  | some failure => some failure
  | none =>
    match firstOverlap l.entries 0 with
    | some failure => some failure
    | none => firstGap l

/-- The response data of CHECK_FAILED: the reason, then the entry index or the zone code (R18, 10.5). -/
def CheckFailure.bytes : CheckFailure → List Byte
  | .entry .bounds i => [1, byteOf i]
  | .entry .align i => [2, byteOf i]
  | .entry .crossZone i => [3, byteOf i]
  | .entry .zoneMode i => [4, byteOf i]
  | .overlap i => [5, byteOf i]
  | .gap z => [6, byteOf z.code]

/-! ### Posture maps (R21) -/

/-- The slot for a posture: that posture's entry, and the OPEN entry for UNSET (R21). -/
def PostureMap.slotFor (m : PostureMap) : Posture → Fin 8
  | .unset | .opened => m.opened
  | .bent => m.bent
  | .closedFront => m.closedFront
  | .closedBack => m.closedBack

/-- The map with one posture's entry replaced (R22). UNSET has no entry. -/
def PostureMap.setEntry (m : PostureMap) (p : Posture) (n : Fin 8) : PostureMap :=
  match p with
  | .unset => m
  | .opened => { m with opened := n }
  | .bent => { m with bent := n }
  | .closedFront => { m with closedFront := n }
  | .closedBack => { m with closedBack := n }

/-- A map names a slot in one of its entries (R24). -/
def PostureMap.names (m : PostureMap) (n : Fin 8) : Bool :=
  decide (m.opened = n ∨ m.bent = n ∨ m.closedFront = n ∨ m.closedBack = n)

/-- A slot is named in the active or the pending map (R8, R24). -/
def LayoutStore.inUse (st : LayoutStore) (n : Fin 8) : Bool := st.active.names n || st.pendingMap.names n

/-- The active map is replaced as a whole by the pending map (R23). -/
def LayoutStore.takeover (st : LayoutStore) : LayoutStore := { st with active := st.pendingMap }

/-- Both maps name slot 0 and slots 1 to 7 become EMPTY, as one action; slot 0 is unchanged (R25). -/
def LayoutStore.atLoaderStart (st : LayoutStore) : LayoutStore :=
  { slots := (Vector.replicate 8 emptySlot).set 0 st.slots[0]
    active := zeroMap
    pendingMap := zeroMap }

/-! ### Editing (R8 to R13) -/

/-- Tests 1 to 3 of the admission of an edit: the slot number is 0 to 7, is not 0, and is named in no map (R8). -/
def LayoutStore.editTests (st : LayoutStore) (n : Nat) : Except Status (Fin 8) :=
  if h : n < 8 then
    if n = 0 then .error .state
    else if st.inUse ⟨n, h⟩ = true then .error .inUse
    else .ok ⟨n, h⟩
  else .error .range

/-- An edit: the five tests in order, then the change; the slot then holds EDITING (R8). `change` answers none when an
operand lies outside its range (test 5). It gives the slot as changed and the store after. -/
def LayoutStore.edit (st : LayoutStore) (n : Nat) (needsLayout : Bool) (change : Layout → Option Layout) :
    Except Status (Slot × LayoutStore) :=
  match st.editTests n with
  | .error status => .error status
  | .ok i =>
    if needsLayout = true ∧ st.slots[i].state = .empty then .error .state
    else
      match change st.slots[i].layout with
      | none => .error .range
      | some l => .ok (⟨.editing, l⟩, { st with slots := st.slots.set i ⟨.editing, l⟩ })

/-- The slot's state and entry count, as the responses of the edit commands and of SLOT_CHECK carry them (R8, 10.5). -/
def Slot.summary (slot : Slot) : List Byte := [byteOf slot.state.code, byteOf slot.layout.entries.length]

/-- The reply to an edit command (R8). -/
def State.editReply (s : State) (n : Byte) (needsLayout : Bool) (change : Layout → Option Layout) : Reply :=
  match s.store.edit n.toNat needsLayout change with
  | .error status => .refuse status s
  | .ok (slot, store) => .done slot.summary { s with store := store }

/-- R11: an entry is replaced, or appended to a list of fewer than 12; none is RANGE. -/
def Layout.putEntry (l : Layout) (index : Nat) (e : Entry) : Option Layout :=
  if index < l.entries.length then some { l with entries := l.entries.set index e }
  else if index = l.entries.length ∧ l.entries.length < 12 then some { l with entries := l.entries ++ [e] }
  else none

/-- R13: the last entry is removed; none, on an empty list, is RANGE. -/
def Layout.dropEntry (l : Layout) : Option Layout :=
  if l.entries.isEmpty then none else some { l with entries := l.entries.dropLast }

/-- SLOT_CLEAR(slot) (R9). -/
def slotClearAction : List Byte → State → Reply
  | [n], s => s.editReply n false fun _ => some emptyLayout
  | _, s => .refuse .length s

/-- SLOT_ZONES(slot, modes) (R10). -/
def slotZonesAction : List Byte → State → Reply
  | [n, f, sp, b], s => s.editReply n true fun l => (parseModes f sp b).map fun m => { l with modes := m }
  | _, s => .refuse .length s

/-- ENTRY_PUT(slot, index, entry) (R11, R12). -/
def entryPutAction : List Byte → State → Reply
  | n :: index :: bytes, s => s.editReply n true fun l => (parseEntry bytes).bind (l.putEntry index.toNat)
  | _, s => .refuse .length s

/-- ENTRY_DROP(slot) (R13). -/
def entryDropAction : List Byte → State → Reply
  | [n], s => s.editReply n true Layout.dropEntry
  | _, s => .refuse .length s

/-- SLOT_CLEAR (R9). -/
def execSlotClear (s : State) : Result := .next (s.carryOut 0x01 (lengthIs 1) false slotClearAction)

/-- SLOT_ZONES (R10). -/
def execSlotZones (s : State) : Result := .next (s.carryOut 0x02 (lengthIs 4) false slotZonesAction)

/-- ENTRY_PUT (R11, R12). -/
def execEntryPut (s : State) : Result := .next (s.carryOut 0x03 (lengthIs 22) false entryPutAction)

/-- ENTRY_DROP (R13). -/
def execEntryDrop (s : State) : Result := .next (s.carryOut 0x04 (lengthIs 1) false entryDropAction)

/-! ### SLOT_CHECK (R14, R18) -/

/-- SLOT_CHECK(slot) (R14, R18). -/
def slotCheckAction : List Byte → State → Reply
  | [n], s =>
    if h : n.toNat < 8 then
      let slot := s.store.slots[n.toNat]
      match slot.state with
      | .empty => .refuse .state s
      | .ready => .done slot.summary s
      | .editing =>
        match slot.layout.check with
        | some failure => ⟨.checkFailed, failure.bytes, s⟩
        | none =>
          .done (Slot.summary ⟨.ready, slot.layout⟩)
            { s with store := { s.store with slots := s.store.slots.set n.toNat ⟨.ready, slot.layout⟩ } }
    else .refuse .range s
  | _, s => .refuse .length s

/-- SLOT_CHECK (R14). -/
def execSlotCheck (s : State) : Result := .next (s.carryOut 0x05 (lengthIs 1) false slotCheckAction)

/-! ### SLOT_READ (R19, R20) -/

/-- The entries that SLOT_READ returns: from `index` on in index order, going on from 0 after the last; none when the
count is 0 (R20). -/
def readEntries (entries : List Entry) (index n : Nat) : List Entry :=
  if entries.isEmpty then []
  else (List.range (min n 4)).filterMap fun j => entries[(index + j) % entries.length]?

/-- SLOT_READ(slot, index, n) (R19, R20). -/
def slotReadAction : List Byte → State → Reply
  | [n, index, count], s =>
    if h : n.toNat < 8 then
      let slot := s.store.slots[n.toNat]
      let entries := slot.layout.entries
      if 11 < index.toNat then .refuse .range s
      else if entries.length ≠ 0 ∧ entries.length ≤ index.toNat then .refuse .range s
      else
        .done
          ([byteOf slot.state.code] ++ modeBytes slot.layout.modes ++ [byteOf entries.length]
            ++ (readEntries entries index.toNat count.toNat).flatMap Entry.bytes)
          s
    else .refuse .range s
  | _, s => .refuse .length s

/-- SLOT_READ (R19). -/
def execSlotRead (s : State) : Result := .next (s.carryOut 0x06 (lengthIs 3) false slotReadAction)

/-! ### MAP_SET (R22) -/

/-- The admission of a slot to the pending map, and the write: the slot number is 0 to 7 (RANGE) and the slot is READY
(STATE); an admitted one is written and the mapper is told (R22, R184). -/
def State.offerToMap (s : State) (p : Posture) (n : Nat) : Except Status State :=
  if h : n < 8 then
    if s.store.slots[n].state = .ready then
      .ok (State.notify
        { s with store := { s.store with pendingMap := s.store.pendingMap.setEntry p ⟨n, h⟩ } } .mapSet)
    else .error .state
  else .error .range

/-- MAP_SET(posture, slot) (R22). -/
def mapSetAction : List Byte → State → Reply
  | [p, n], s =>
    match Posture.ofMapCode? p.toNat with
    | none => .refuse .range s
    | some p =>
      match s.offerToMap p n.toNat with
      | .error status => .refuse status s
      | .ok s => .done [] s
  | _, s => .refuse .length s

/-- MAP_SET (R22). -/
def execMapSet (s : State) : Result := .next (s.carryOut 0x07 (lengthIs 2) false mapSetAction)

end Sys2Proof.Machine
end

