-- ==== Sys2Proof/Machine/Gain.lean ====
section
/-! DEFINITION. Chapter 6, Crease Gain: the tables, blending, snapshots, pixel scaling, and its commands. -/

namespace Sys2Proof.Machine

/-- The blended gain of one column (R111). -/
def blendGain (flat fold w : Nat) : Nat :=
  ((flat : Int) + (((fold : Int) - flat) * w + 128) / 256).toNat

/-- The 72 blended gains (R111, R112). -/
def GainUnit.blend (g : GainUnit) (w : Nat) : Vector Nat 72 :=
  Vector.ofFn fun c : Fin 72 => blendGain g.flat[c] g.fold[c] w

/-- The other buffer (R112). -/
def otherBuffer (n : Fin 2) : Fin 2 := if n = 0 then 1 else 0

/-- A frame's snapshot: when the buffer that is not current has no references, it takes the blended gains and becomes
current; else the current buffer is handed out again (R112). The frame's snapshot is the current buffer after. -/
def GainUnit.takeSnapshot (g : GainUnit) (w : Nat) : GainUnit :=
  let other := otherBuffer g.current
  if g.buffers[other].refs = 0 then
    { g with buffers := g.buffers.set other ⟨g.blend w, 0⟩, current := other }
  else g

/-- One component scaled by a gain (R115). -/
def scaleComponent (p : BitVec 10) (gain : Nat) : BitVec 10 :=
  BitVec.ofNat 10 (min 1023 ((p.toNat * gain + 512) / 1024))

/-- A pixel scaled by the gain of its destination column (R115). -/
def scalePixel (gain : Nat) (p : Pixel) : Pixel :=
  ⟨scaleComponent p.r gain, scaleComponent p.g gain, scaleComponent p.b gain⟩

/-- The table operand of GAIN_LOAD (R108, R172). -/
inductive GainTable where
  | flat
  | fold
deriving DecidableEq, Repr

def GainTable.ofCode? : Nat → Option GainTable
  | 0 => some .flat
  | 1 => some .fold
  | _ => none

/-- A table with consecutive entries replaced (R108). -/
def writeGains (table : Vector Nat 72) (first : Nat) (values : List Nat) : Vector Nat 72 :=
  Vector.ofFn fun c : Fin 72 =>
    if first ≤ c.val ∧ c.val < first + values.length then values.getD (c.val - first) table[c] else table[c]

/-- The length that GAIN_LOAD requires: 3 + 2 × count, where count is the third operand byte; fewer than 3 bytes do not
fit (R165). -/
def gainLoadFits : List Byte → Bool
  | _ :: _ :: count :: values => decide (values.length = 2 * count.toNat)
  | _ => false

/-- GAIN_LOAD(table, first column, count, values) (R108). -/
def gainLoadAction : List Byte → State → Reply
  | table :: first :: count :: bytes, s =>
    match GainTable.ofCode? table.toNat with
    | none => .refuse .range s
    | some table =>
      let values := be16s bytes
      if 71 < first.toNat ∨ count.toNat < 1 ∨ 24 < count.toNat ∨ 72 < first.toNat + count.toNat
          ∨ values.any (4095 < ·) = true then .refuse .range s
      else
        .done []
          { s with gain := match table with
              | .flat => { s.gain with flat := writeGains s.gain.flat first.toNat values }
              | .fold => { s.gain with fold := writeGains s.gain.fold first.toNat values } }
  | _, s => .refuse .length s

/-- GAIN_LOAD (R108). -/
def execGainLoad (s : State) : Result := .next (s.carryOut 0x20 gainLoadFits false gainLoadAction)

/-- The tests of GAIN_POINTS (R110). -/
def pointsInRange (foldPt flatPt : Nat) : Bool := decide (foldPt ≤ 2048 ∧ flatPt ≤ 2048 ∧ foldPt < flatPt)

/-- GAIN_POINTS(fold_pt, flat_pt) (R110). -/
def gainPointsAction : List Byte → State → Reply
  | [a1, a0, b1, b0], s =>
    if pointsInRange (be16 a1 a0) (be16 b1 b0) = true then
      .done [] { s with gain := { s.gain with foldPt := be16 a1 a0, flatPt := be16 b1 b0 } }
    else .refuse .range s
  | _, s => .refuse .length s

/-- GAIN_POINTS (R110). -/
def execGainPoints (s : State) : Result := .next (s.carryOut 0x21 (lengthIs 4) false gainPointsAction)

end Sys2Proof.Machine
end

