-- ==== Sys2Proof/Machine/PanelBus.lean ====
section
/-! DEFINITION. Chapter 7, Panel Bus Transfers: arbitration, the phases of a run, its pixels, drops and profiles. -/

namespace Sys2Proof.Machine

/-! ### The pixels of a run (R90, R115, R129) -/

/-- The source column of the pixel for driver column `firstCol + i` (R90). -/
def sourceColumn (srcCol count : Nat) (mirror : Bool) (i : Nat) : Nat :=
  if mirror = true then srcCol + count - 1 - i else srcCol + i

/-- The pixel that a copy run reads from its line slot: black at the source width and beyond (R90). -/
def sourcePixel (line : List Pixel) (srcWidth column : Nat) : Pixel :=
  if column < srcWidth then line.getD column Pixel.black else Pixel.black

/-- The pixels held by an occupied line slot. -/
def Intake.linePixels (i : Intake) (n : Fin 32) : List Pixel :=
  match i.lines[n] with
  | some l => l.pixels
  | none => []

/-- The pixel that a run sends for driver column `firstCol + i`: read from the line slot by R90 and, where the run
carries a snapshot, scaled by the gain of its destination column (R115); or the colour as it stands (R116, R129). -/
def State.runPixel (s : State) (r : Run) (i : Nat) : Pixel :=
  match r.source with
  | .fill colour => colour
  | .copy slot srcCol mirror srcWidth snapshot =>
    let p := sourcePixel (s.intake.linePixels slot) srcWidth (sourceColumn srcCol r.count mirror i)
    match snapshot with
    | none => p
    | some n => scalePixel (s.gain.buffers[n].gains.toList.getD (r.firstCol + i) 1024) p

/-- The pixels of the run's first pairs (R129). -/
def State.runPixels (s : State) (r : Run) (pairs : Nat) : List Pixel :=
  (List.range (2 * pairs)).map (s.runPixel r)

/-- The pairs of a run (R120). -/
def Run.pairs (r : Run) : Nat := r.count / 2

/-- The panel bus carries something to a driver. -/
def State.send (s : State) (t : PanelTransfer) : State :=
  { s with outside := { s.outside with panelBus := s.outside.panelBus ++ [t] } }

/-- The first pairs of a run are sent: their pixels stand in the driver's GRAM (R129, R130, R131). -/
def State.sendPairs (s : State) (r : Run) (pairs : Nat) : State :=
  s.send (.pixels r.driver r.row r.firstCol (s.runPixels r pairs))

/-- The beats that a pair takes (R124). -/
def Profile.beatsPerPair (p : Profile) : Nat :=
  match p.timingClass with
  | 1 => 1
  | 2 => 2 + p.wait
  | _ => 3 + p.wait

/-! ### Arbitration (R122, R123, R126, R127) -/

/-- The cyclic order F, S, K, F (R122). -/
def Zone.next : Zone → Zone
  | .front => .spine
  | .spine => .back
  | .back => .front

/-- The order in which the arbiter looks at the queues, starting after the pointer (R122). -/
def arbiterOrder (pointer : Driver) : List Driver := [pointer.next, pointer.next.next, pointer]

/-- The driver granted: the first in the arbiter's order whose queue holds a run (R122). -/
def Engine.grantee (e : Engine) : Option Driver :=
  (arbiterOrder e.pointer).find? fun d => !(e.queues.get d).isEmpty

/-- The beats still owed before a WINDOW for a driver: 1 + T after a close by another driver, less the beats since
that close (R126). -/
def Engine.owedBeats (e : Engine) (d : Driver) : Nat :=
  match e.lastClose with
  | none => 0
  | some c => if c.driver = d then 0 else 1 + c.turnaround - c.beatsSince

/-- The start of a WINDOW: the attempt count rises by 1, the driver's stored profile is latched and the hold count is
set to 0 (R127, R124). -/
def Engine.startWindow (e : Engine) (r : Run) : Engine :=
  { e with
    phase := .window
    inTransfer := some { r with attempts := r.attempts + 1 }
    profileInUse := e.profiles.get r.driver
    holdCount := 0 }

/-- A grant of the run at the head of a queue: it leaves the queue and becomes the run in transfer; TURNAROUND follows
if beats are owed, else WINDOW (R123, R126). -/
def Engine.grantRun (e : Engine) (d : Driver) (r : Run) (rest : List Run) : Engine :=
  let e' := { e with queues := e.queues.set d rest, pointer := d }
  if e.owedBeats d = 0 then e'.startWindow r
  else { e' with phase := .turnaround (e.owedBeats d), inTransfer := some r }

/-- GRANT (R122, R123). -/
def execGrant (s : State) : Result :=
  match s.engine.phase, s.engine.grantee with
  | .idle, some d =>
    match s.engine.queues.get d with
    | r :: rest => .next { s with engine := s.engine.grantRun d r rest }
    | [] => .next s
  | _, _ => .next s

/-- TURNAROUND_DONE: the owed beats have passed and the run starts its WINDOW (R126, R127). -/
def execTurnaroundDone (s : State) : Result :=
  match s.engine.phase, s.engine.inTransfer with
  | .turnaround _, some r => .next { s with engine := s.engine.startWindow r }
  | _, _ => .next s

/-- RETRY_DONE: the RETRY beats have passed and the run starts a new WINDOW (R128, R127). -/
def execRetryDone (s : State) : Result :=
  match s.engine.phase, s.engine.inTransfer with
  | .retry _, some r => .next { s with engine := s.engine.startWindow r }
  | _, _ => .next s

/-- WINDOW_ACCEPTED: row, first and last driver column and pixel count have been sent, and the run goes to DATA; the
fourth beat advanced, so it had no HOLD and set the hold count to 0 (R127, R131). -/
def execWindowAccepted (s : State) : Result :=
  match s.engine.phase, s.engine.inTransfer with
  | .window, some r =>
    .next
      (State.send { s with engine := { s.engine with phase := .data, holdCount := 0 } }
        (.window r.driver r.row r.firstCol (r.firstCol + r.count - 1) r.count))
  | _, _ => .next s

/-! ### The end of a run (R130, R132) -/

/-- A run ends on the bus: its references are released, its end becomes the last close with the latched turnaround,
and the bus goes IDLE (R130, R132). -/
def State.closeRun (s : State) (r : Run) : State :=
  let s := s.releaseRunRefs r
  { s with engine := { s.engine with
      phase := .idle, inTransfer := none
      lastClose := some ⟨r.driver, s.engine.profileInUse.turnaround, 0⟩ } }

/-- A run is dropped: it ends, its driver's fault flag is set, a FAULT record is offered, and the mapper is told the
zone (R132, R133, R134). -/
def State.dropRun (s : State) (r : Run) (code : FaultCode) : State :=
  let s := s.closeRun r
  let s := { s with engine := { s.engine with faultFlags := s.engine.faultFlags.set r.driver true } }
  (s.offer (.fault code r.driver r.row s.posture.f)).notify (.drop r.driver)

/-- RUN_FINISHED: every pair has been sent; the last beat counted, so it had no HOLD and set the hold count to 0
(R129, R130, R131). -/
def execRunFinished (s : State) : Result :=
  match s.engine.phase, s.engine.inTransfer with
  | .data, some r =>
    .next (State.closeRun { s.sendPairs r r.pairs with engine := { s.engine with holdCount := 0 } } r)
  | _, _ => .next s

/-- The hold count at which a run is dropped (R131). -/
def holdLimitCount : Nat := 2049

/-- The hold count after a REJECT beat: one more when HOLD is asserted on the same beat, else 0 (R127). The first is
DEDUCED (log 27). -/
def Engine.holdAfterReject (e : Engine) (hold : Bool) : Nat :=
  if hold = true then min (e.holdCount + 1) holdLimitCount else 0

/-- The HOLD or REJECT line spoken of is that of the run's driver; no other line is acted on (R135, log 29). -/
def Outside.speaksOf (o : Outside) (r : Run) : Bool :=
  match o.lineFrom with
  | none => true
  | some d => decide (d = r.driver)

/-- A REJECT beat in the WINDOW of a run: RETRY after attempts 1 to 3 and a drop after the fourth (R128). Whether HOLD
is asserted on the same beat is a free value (log 27). -/
def State.rejectRun (s : State) (r : Run) : State :=
  let s := { s with
    engine := { s.engine with holdCount := s.engine.holdAfterReject (Config.holdOnReject s.freeIndex) }
    freeIndex := s.freeIndex + 1 }
  if r.attempts < 4 then
    { s with engine := { s.engine with phase := .retry (1 + s.engine.profileInUse.turnaround) } }
  else s.dropRun r .driverReject

/-- REJECT: in WINDOW, from the driver of the run in transfer, it ends the attempt (R128); from another driver or in
another phase it is ignored (R128, R129, R135). What HOLD on the same beat does to the hold count is the model's choice
(log 27). -/
def execReject (s : State) : Result :=
  match s.engine.phase, s.engine.inTransfer with
  | .window, some r => if s.outside.speaksOf r = true then .next (s.rejectRun r) else .next s
  | _, _ => .next s

/-- HOLD_LIMIT: the hold count reaches 2049 in WINDOW or DATA and the run is dropped; the pairs completed before the
drop in DATA stand in GRAM, and the pair in progress is not one of them (R131). HOLD from another driver does not
count (R135). -/
def execHoldLimit (pairsDone : Nat) (s : State) : Result :=
  let s' := { s with engine := { s.engine with holdCount := holdLimitCount } }
  match s.engine.phase, s.engine.inTransfer with
  | .window, some r =>
    if s.outside.speaksOf r = true then .next (s'.dropRun r .driverStuck) else .next s
  | .data, some r =>
    if s.outside.speaksOf r = true then
      .next ((s'.sendPairs r (min pairsDone (r.pairs - 1))).dropRun r .driverStuck)
    else .next s
  | _, _ => .next s

/-- A reset stops the run in transfer; a DATA phase cut short leaves the pairs sent so far in GRAM, fewer than all of
them. How many is a free value (R139, log 12). -/
def State.abandonTransfer (s : State) : State :=
  match s.engine.phase, s.engine.inTransfer with
  | .data, some r =>
    { s.sendPairs r (Config.pairsSentAtReset s.freeIndex % r.pairs) with freeIndex := s.freeIndex + 1 }
  | _, _ => s

/-! ### Profiles (R125) -/

/-- A profile in its ranges; none is RANGE (R125). -/
def parseProfile (timingClass wait turnaround : Byte) : Option Profile :=
  if 1 ≤ timingClass.toNat ∧ timingClass.toNat ≤ 3 ∧ wait.toNat ≤ 3 ∧ turnaround.toNat ≤ 3 then
    some ⟨timingClass.toNat, wait.toNat, turnaround.toNat⟩
  else none

/-- One driver's profile is stored (R125). -/
def State.storeProfile (s : State) (d : Driver) (p : Profile) : State :=
  { s with engine := { s.engine with profiles := s.engine.profiles.set d p } }

/-- PROFILE_SET(driver, class, wait, turnaround) (R125). -/
def profileSetAction : List Byte → State → Reply
  | [d, c, w, t], s =>
    match Zone.ofCode? d.toNat, parseProfile c w t with
    | some d, some p => .done [] (s.storeProfile d p)
    | _, _ => .refuse .range s
  | _, s => .refuse .length s

/-- PROFILE_SET (R125). -/
def execProfileSet (s : State) : Result := .next (s.carryOut 0x30 (lengthIs 4) false profileSetAction)

end Sys2Proof.Machine
end

