-- ==== Sys2Proof/Machine/Mapper.lean ====
section
/-! DEFINITION. Chapter 5, Line Mapping and Fill: frame set-up, copy runs, the fill sweep, notices and standalone
apply. -/

namespace Sys2Proof.Machine

/-! ### The fill list (R94) -/

/-- The black fill of a whole zone (R94). -/
def darkFill (z : Zone) : FillItem := ⟨z, 0, 0, z.width, panelRows, Pixel.black⟩

/-- The fill list item of a FILL entry; none for a COPY entry (R94). -/
def Entry.fillItem? (e : Entry) : Option FillItem :=
  match e.body, e.dst.zone? with
  | .fill colour, some z => some ⟨z, e.dst.col - z.firstCol, e.dst.row, e.dst.width, e.dst.height, colour⟩
  | _, _ => none

/-- The fill list: the dark zones in zone order, then the FILL entries in list order (R94). -/
def Layout.fillList (l : Layout) : List FillItem :=
  (allZones.filter fun z => decide (l.modes.get z = .dark)).map darkFill ++ l.entries.filterMap Entry.fillItem?

/-- The cursor is set to the first row of the first item, or to IDLE for an empty list (R85, R98). -/
def Mapper.startSweep (m : Mapper) (items : List FillItem) : Mapper :=
  { m with fillList := items, cursor := items.head?.map fun item => ⟨0, item.row⟩ }

/-- The fill run at a row of an item (R95). -/
def FillItem.run (item : FillItem) (row : Nat) : Run :=
  ⟨item.driver, row, item.firstCol, item.width, .fill item.colour, 0⟩

/-- The cursor after the run at it has been placed (R96). -/
def nextCursor (items : List FillItem) (c : Cursor) : Option Cursor :=
  match items[c.item]? with
  | none => none
  | some item =>
    if c.row + 1 < item.row + item.height then some ⟨c.item, c.row + 1⟩
    else (items[c.item + 1]?).map fun later => ⟨c.item + 1, later.row⟩

/-! ### When the mapper is free (R83, R91, R92) -/

/-- A run is a fill run. -/
def Run.isFill (r : Run) : Bool :=
  match r.source with
  | .fill _ => true
  | .copy .. => false

/-- The mapper takes an intake item when no line is in hand, it is not stopped on a copy run, and every notice that has
arrived has been acted on (R83, R91, R92, R103, R159; log 15). -/
def Mapper.takesItems (m : Mapper) : Bool :=
  m.lineInHand.isNone && m.waitingRun.all Run.isFill && m.notices.isEmpty

/-- A fill run waiting for room is withdrawn; the cursor stays (R97, R101). -/
def Mapper.withdrawFill (m : Mapper) : Mapper :=
  { m with waitingRun := m.waitingRun.filter fun r => !r.isFill }

/-! ### Frame set-up (R84 to R86) -/

/-- Steps 1 to 3 of R84, which are also steps 1 to 3 of R100: the takeover, the lookup of the current posture's slot in
the active map, and the copy of that slot. -/
def State.copyLayout (s : State) : State :=
  let store := s.store.takeover
  let n := store.active.slotFor s.posture.posture
  { s with
    store := store
    mapper := { s.mapper with
      postureInEffect := s.posture.posture, copySlot := n, copy := store.slots[n].layout } }

/-- Some COPY entry reaches below the declared height (R86). -/
def Layout.sourceShort (l : Layout) (height : Nat) : Bool :=
  l.entries.any fun e => match e.body with
    | .copy _ srcRow _ => decide (height < srcRow + e.dst.height)
    | .fill _ => false

/-- A zone repaint request is set. -/
def PerZone.any (p : PerZone Bool) : Bool := p.front || p.spine || p.back

/-- The repaint decision at step 6: whether the slot number differed, the flag is set, or a request is set (R85). -/
def Mapper.repaints (m : Mapper) (slotChanged : Bool) : Bool :=
  slotChanged || m.repaintPending || m.zoneRequests.any

/-- The fill list of a repaint frame: every item, but only those of the requested zones when the repaint is owed to
requests alone and no sweep is unfinished (R85). -/
def Mapper.repaintList (m : Mapper) (slotChanged : Bool) : List FillItem :=
  if slotChanged = false ∧ m.repaintPending = false ∧ m.cursor = none then
    m.copy.fillList.filter fun item => m.zoneRequests.get item.driver
  else m.copy.fillList

/-- What a repaint frame does to the mapper: the list is formed, the flag and the requests are cleared, and the cursor
is set (R85). -/
def Mapper.repaint (m : Mapper) (slotChanged : Bool) : Mapper :=
  { m.startSweep (m.repaintList slotChanged) with
    repaintPending := false, zoneRequests := PerZone.same false }

/-- The record of a repaint frame (R86). -/
def Mapper.repaintRecord (m : Mapper) (slotChanged : Bool) (f : FrameInHand) : ReportBody :=
  .applied m.copySlot m.postureInEffect f.number slotChanged (m.repaintPending || m.zoneRequests.any) false
    (m.copy.sourceShort f.height)

/-- Frame set-up for a FRAME_START (R84). -/
def State.setUpFrame (s : State) (number : Word16) (width height : Nat) : State :=
  let oldSlot := s.mapper.copySlot
  let s := s.copyLayout
  let gain := s.gain.takeSnapshot s.posture.w
  let f : FrameInHand := ⟨number, width, height, gain.current⟩
  let m : Mapper := { s.mapper with
    frameInHand := some f, lastFrame := number, frameOpen := true, changeNotice := false }
  let slotChanged := decide (m.copySlot ≠ oldSlot)
  let s := { s with gain := gain, emission := s.emission.takeModes m.copy.modes }
  if m.repaints slotChanged = true then
    State.offer { s with mapper := m.repaint slotChanged } (m.repaintRecord slotChanged f)
  else { s with mapper := m }

/-- The oldest item leaves the intake queue (R66). -/
def State.takeItem (s : State) (rest : List IntakeItem) : State :=
  { s with intake := { s.intake with queue := rest } }

/-- FRAME_SET_UP: the mapper takes a FRAME_START, withdrawing a waiting fill run (R83, R84, R97). -/
def execFrameSetUp (s : State) : Result :=
  match s.mapper.takesItems, s.intake.queue with
  | true, .frameStart number width height :: rest =>
    .next (State.setUpFrame { s.takeItem rest with mapper := s.mapper.withdrawFill } number width height)
  | _, _ => .next s

/-! ### Copy runs (R88 to R92) -/

/-- The copy run that an entry gives from a line; none when the entry is passed over (R88, R89). -/
def copyRun (modes : PerZone ZoneMode) (f : FrameInHand) (slot : Fin 32) (row : Nat) (e : Entry) : Option Run :=
  match e.body, e.dst.zone? with
  | .copy srcCol srcRow mirror, some z =>
    if modes.get z = .live ∧ srcRow ≤ row ∧ row < srcRow + e.dst.height then
      some ⟨z, e.dst.row + (row - srcRow), e.dst.col - z.firstCol, e.dst.width,
        .copy slot srcCol mirror f.width (if z = .spine then some f.snapshot else none), 0⟩
    else none
  | _, _ => none

/-- Every entry has been examined and every run placed: the mapper releases its hold and the line is no longer in hand
(R92). -/
def State.finishLine (s : State) (slot : Fin 32) : State :=
  { s with intake := s.intake.releaseHold slot, mapper := { s.mapper with lineInHand := none } }

/-- The entries from index `i` on are examined against the line in hand: each run is placed in entry order, until a
queue is full and the run becomes the waiting run (R88, R91). -/
def examineEntries (modes : PerZone ZoneMode) (f : FrameInHand) (slot : Fin 32) (row : Nat) :
    List Entry → Nat → State → State
  | [], _, s => s.finishLine slot
  | e :: es, i, s =>
    match copyRun modes f slot row e with
    | none => examineEntries modes f slot row es (i + 1) s
    | some r =>
      if s.engine.hasRoom r.driver = true then examineEntries modes f slot row es (i + 1) (s.placeRun r)
      else
        { s with mapper := { s.mapper with
            waitingRun := some r, lineInHand := some ⟨slot, row, i + 1⟩ } }

/-- The line in hand is examined from its next entry on (R88, R91). -/
def State.examineLine (s : State) (f : FrameInHand) (l : LineInHand) : State :=
  examineEntries s.mapper.copy.modes f l.slot l.row (s.mapper.copy.entries.drop l.next) l.next s

/-- LINE_ITEM: the mapper takes a LINE item and generates its copy runs (R83, R88). -/
def execLineItem (s : State) : Result :=
  match s.mapper.takesItems, s.intake.queue, s.mapper.frameInHand with
  | true, .line slot row :: rest, some f =>
    let l : LineInHand := ⟨slot, row, 0⟩
    .next (State.examineLine { s.takeItem rest with mapper := { s.mapper with lineInHand := some l } } f l)
  | _, _, _ => .next s

/-- FRAME_END: the mapper takes a FRAME_END and clears frame open; the fill sweep may then start or resume (R93). -/
def execFrameEnd (s : State) : Result :=
  match s.mapper.takesItems, s.intake.queue with
  | true, .frameEnd :: rest => .next { s.takeItem rest with mapper := { s.mapper with frameOpen := false } }
  | _, _ => .next s

/-! ### The fill sweep (R95, R96) -/

/-- A fill run at the cursor is placed, and the cursor advances (R96). -/
def State.placeFill (s : State) (r : Run) : State :=
  let s := s.placeRun r
  { s with mapper := { s.mapper with cursor := s.mapper.cursor.bind (nextCursor s.mapper.fillList) } }

/-- A FRAME_START stands at the head of the intake queue: the sweep is paused (R97). -/
def Intake.frameStartAtHead (i : Intake) : Bool :=
  match i.queue with
  | .frameStart .. :: _ => true
  | _ => false

/-- The sweep runs while its cursor is not IDLE, frame open is clear, no line is in hand, no run waits and no
FRAME_START has reached the head of the queue (R96, R97). -/
def State.sweepRuns (s : State) : Bool :=
  !s.mapper.frameOpen && s.mapper.lineInHand.isNone && s.mapper.waitingRun.isNone && !s.intake.frameStartAtHead

/-- FILL_SWEEP_RUN: the fill run at the cursor is placed, or becomes the waiting run (R95, R96). -/
def execFillSweepRun (s : State) : Result :=
  match s.sweepRuns, s.mapper.cursor with
  | true, some c =>
    match s.mapper.fillList[c.item]? with
    | none => .next s
    | some item =>
      let r := item.run c.row
      if s.engine.hasRoom r.driver = true then .next (s.placeFill r)
      else .next { s with mapper := { s.mapper with waitingRun := some r } }
  | _, _ => .next s

/-- WAITING_RUN_PLACED: the waiting run's queue has room; it is placed, and the mapper carries on from the next entry of
the line in hand, or advances the sweep (R91, R96, R121). -/
def execWaitingRunPlaced (s : State) : Result :=
  match s.mapper.waitingRun with
  | none => .next s
  | some r =>
    if s.engine.hasRoom r.driver = true then
      let s := { s with mapper := { s.mapper with waitingRun := none } }
      if r.isFill = true then .next (s.placeFill r)
      else
        match s.mapper.lineInHand, s.mapper.frameInHand with
        | some l, some f => .next ((s.placeRun r).examineLine f l)
        | _, _ => .next (s.placeRun r)
    else .next s

/-! ### Standalone apply (R100, R101) -/

/-- A standalone apply (R100). A fill run waiting for room is withdrawn (R101). -/
def State.standaloneApply (s : State) : State :=
  let oldSlot := s.mapper.copySlot
  let s := State.copyLayout { s with mapper := { s.mapper.withdrawFill with changeNotice := false } }
  let m := s.mapper
  let slotChanged := decide (m.copySlot ≠ oldSlot)
  let s := { s with emission := s.emission.takeModes m.copy.modes }
  let m' := if slotChanged = true ∨ m.repaintPending = true then
      { m.startSweep m.copy.fillList with repaintPending := true }
    else m
  State.offer { s with mapper := m' }
    (.applied m.copySlot m.postureInEffect m.lastFrame slotChanged false true false)

/-! ### Notices (R83, R99, R103) -/

/-- The oldest notice, when the mapper may act on it: no line is in hand (R83). -/
def Mapper.notice? (m : Mapper) : Option (Notice × Mapper) :=
  match m.lineInHand, m.notices with
  | none, n :: rest => some (n, { m with notices := rest })
  | _, _ => none

/-- A posture adoption or MAP_SET notice: in LIVE the change-notice flag is set; in HOLD and BLANK a standalone apply
follows (R99). -/
def State.layoutNotice (s : State) : State :=
  match s.mapper.guardHeld with
  | .live => { s with mapper := { s.mapper with changeNotice := true } }
  | .hold | .blank => s.standaloneApply

/-- POSTURE_NOTICE (R99). -/
def execPostureNotice (s : State) : Result :=
  match s.mapper.notice? with
  | some (.posture, m) => .next (State.layoutNotice { s with mapper := m })
  | _ => .next s

/-- MAP_SET_NOTICE (R99). -/
def execMapSetNotice (s : State) : Result :=
  match s.mapper.notice? with
  | some (.mapSet, m) => .next (State.layoutNotice { s with mapper := m })
  | _ => .next s

/-- A guard state change acted on: the new state is held; leaving BLANK sets the repaint-pending flag (R102, R159), and
LIVE to HOLD with the change-notice flag set leads to a standalone apply (R99). -/
def State.guardNotice (s : State) (new : GuardState) : State :=
  let held := s.mapper.guardHeld
  let m : Mapper := { s.mapper with
    guardHeld := new
    repaintPending := s.mapper.repaintPending || decide (held = .blank ∧ new ≠ .blank) }
  if held = .live ∧ new = .hold ∧ m.changeNotice = true then State.standaloneApply { s with mapper := m }
  else { s with mapper := m }

/-- GUARD_STATE_NOTICE (R99, R102, R159). -/
def execGuardStateNotice (s : State) : Result :=
  match s.mapper.notice? with
  | some (.guardState new, m) => .next (State.guardNotice { s with mapper := m } new)
  | _ => .next s

/-- DROP_NOTICE: the zone's repaint request is set (R103). -/
def execDropNotice (s : State) : Result :=
  match s.mapper.notice? with
  | some (.drop z, m) => .next { s with mapper := { m with zoneRequests := m.zoneRequests.set z true } }
  | _ => .next s

end Sys2Proof.Machine
end

