-- ==== Sys2Proof/Machine/Posture.lean ====
section
/-! DEFINITION. Chapter 2, Posture Sensing: the angle chain, classification, dwell and adoption, and its commands. -/

namespace Sys2Proof.Machine

/-! ### The angle chain (R28 to R33, R44) -/

/-- The raw code: the first byte times 16 plus the upper four bits of the second (R28). -/
def rawCode (first second : Byte) : Nat := first.toNat * 16 + second.toNat / 16

/-- The corrected code (R30). -/
def correctedCode (raw : Nat) (offset : Int) : Nat := (((raw : Int) + offset) % 4096).toNat

/-- The opening angle (R31). -/
def openingAngle (c : Nat) : Nat := if c ≤ 2048 then c else if c ≤ 3071 then 2048 else 0

/-- The filter state after a good sample with opening angle `a` (R32). -/
def filterStep (k : Nat) (y : Option Nat) (a : Nat) : Nat :=
  match y with
  | none => 16 * a
  | some y => ((y : Int) + ((16 * a : Nat) - (y : Int)) / 2 ^ k).toNat

/-- The filtered angle (R33). -/
def filteredAngle (y : Nat) : Nat := (y + 8) / 16

/-- The blend weight (R44). -/
def blendWeight (f foldPt flatPt : Nat) : Nat :=
  if f ≤ foldPt then 256
  else if flatPt ≤ f then 0
  else ((flatPt - f) * 256 + (flatPt - foldPt) / 2) / (flatPt - foldPt)

/-! ### Classification, dwell and adoption (R34 to R38) -/

/-- The class of a posture; UNSET has none (R34). -/
def Posture.class? : Posture → Option PostureClass
  | .unset => none
  | .opened => some .opened
  | .bent => some .bent
  | .closedFront | .closedBack => some .closed

/-- The class of f by the row of the current posture (R34). -/
def classify (t : Thresholds) (p : Posture) (f : Nat) : PostureClass :=
  match p with
  | .closedFront | .closedBack =>
    if f < t.closedExit then .closed else if t.openEnter ≤ f then .opened else .bent
  | .opened => if f ≤ t.closedEnter then .closed else if t.openExit < f then .opened else .bent
  | .bent | .unset => if f ≤ t.closedEnter then .closed else if t.openEnter ≤ f then .opened else .bent

/-- The posture of an adopted class, by the facing as it stands (R37). -/
def PostureClass.posture (facing : Facing) : PostureClass → Posture
  | .opened => .opened
  | .bent => .bent
  | .closed => match facing with
    | .front => .closedFront
    | .back => .closedBack

/-- An adoption: the posture, a cleared candidate, a POSTURE record, a notice to the mapper (R38). -/
def State.adopt (s : State) (p : Posture) (initial face : Bool) : State :=
  let previous := s.posture.posture
  let s := { s with posture := { s.posture with posture := p, candidate := none, dwellCount := 0 } }
  (s.offer (.posture p previous s.posture.f initial face)).notify .posture

/-- The dwell step for a class, with a posture other than UNSET (R35). -/
def State.dwellStep (s : State) (c : PostureClass) : State :=
  if s.posture.posture.class? = some c then
    { s with posture := { s.posture with candidate := none, dwellCount := 0 } }
  else
    let count := if s.posture.candidate = some c then s.posture.dwellCount + 1 else 1
    if s.posture.config.dwell ≤ count then s.adopt (c.posture s.posture.facing) false false
    else { s with posture := { s.posture with candidate := some c, dwellCount := count } }

/-- Stage 8: initial adoption from UNSET, else dwell (R29, R34, R35, R36). -/
def State.classifySample (s : State) : State :=
  let c := classify s.posture.config.thresholds s.posture.posture s.posture.f
  if s.posture.posture = .unset then s.adopt (c.posture s.posture.facing) true false
  else s.dwellStep c

/-- Stages 1 to 5: the calibrated, folded, filtered angle and the blend weight. While the sensor-lost flag is set the
filter is made uninitialised first (R29, R43). -/
def State.angleChain (s : State) (raw : Nat) : State :=
  let p := s.posture
  let y := filterStep p.config.k (if p.sensorLost = true then none else p.y)
    (openingAngle (correctedCode raw p.offset))
  let f := filteredAngle y
  { s with posture := { p with y := some y, f := f, w := blendWeight f s.gain.foldPt s.gain.flatPt } }

/-- Stage 6: sensor recovery, if the sensor-lost flag is set (R43). That the record's driver and row read 0 is DEDUCED
(log 31). -/
def State.recoverSensor (s : State) : State :=
  if s.posture.sensorLost = true then
    State.offer { s with posture := { s.posture with sensorLost := false } }
      (.fault .sensorBack .front 0 s.posture.f)
  else s

/-- A good sample is taken: the read is no longer outstanding, and the eight stages follow in order (R28, R29). -/
def State.goodSample (s : State) (first second : Byte) : State :=
  let s := { s with posture := { s.posture with outstanding := false } }
  let s := (s.angleChain (rawCode first second)).recoverSensor
  let s := { s with posture := { s.posture with missCount := 0 } }
  s.classifySample

/-- A failed sample is taken: the miss count rises to at most 8, and the miss that brings it to 8 with the flag clear
sets the sensor-lost flag and offers a FAULT record (R41). -/
def State.failedSample (s : State) : State :=
  let lostNow := s.posture.missCount = 7 ∧ s.posture.sensorLost = false
  let s' := { s with posture := { s.posture with
    outstanding := false, missCount := min (s.posture.missCount + 1) 8
    sensorLost := if lostNow then true else s.posture.sensorLost } }
  if lostNow then s'.offer (.fault .sensorLost .front 0 s.posture.f) else s'

/-- The posture unit restarts when the loader finishes: UNSET, filter uninitialised, candidate cleared; no record and
no notice (R48). -/
def PostureUnit.restart (p : PostureUnit) : PostureUnit :=
  { p with posture := .unset, y := none, candidate := none, dwellCount := 0 }

/-! ### The sample timer (R27) -/

/-- The sample period of a rate code, in microseconds (R27). -/
def samplePeriod (rate : Nat) : Nat :=
  match rate with
  | 0 => 5000
  | 1 => 10000
  | 2 => 20000
  | _ => 40000

/-- SAMPLE_TIMER_EXPIRY: the timer restarts; a sensor read is requested unless the loader is RUNNING or a read is
outstanding (R27, R52). -/
def execSampleTimerExpiry (s : State) : Result :=
  let p := { s.posture with sampleTimer := 0 }
  if s.loader.running = true ∨ p.outstanding = true then .next { s with posture := p }
  else
    .next
      (State.request { s with posture := { p with outstanding := true } }
        (.sensor p.config.sensorAddress p.config.sensorRegister))

/-! ### Commands (R39, R45, R47) -/

/-- The other closed posture, when a new facing calls for it (R39). -/
def facingSwitch (p : Posture) (facing : Facing) : Option Posture :=
  match p, facing with
  | .closedFront, .back => some .closedBack
  | .closedBack, .front => some .closedFront
  | _, _ => none

/-- FACE_SET(facing) (R39). -/
def faceSetAction : List Byte → State → Reply
  | [b], s =>
    match Facing.ofCode? b.toNat with
    | none => .refuse .range s
    | some facing =>
      let s := { s with posture := { s.posture with facing := facing } }
      match facingSwitch s.posture.posture facing with
      | some p => .done [] (s.adopt p false true)
      | none => .done [] s
  | _, s => .refuse .length s

/-- FACE_SET (R39). -/
def execFaceSet (s : State) : Result := .next (s.carryOut 0x10 (lengthIs 1) false faceSetAction)

/-- An accepted set of angle values is stored: the candidate is cleared and the sample timer restarts (R45, R46). -/
def PostureUnit.configure (p : PostureUnit) (c : AngleConfig) : PostureUnit :=
  { p with config := c, candidate := none, dwellCount := 0, sampleTimer := 0 }

/-- ANGLE_SET (R45, R46). -/
def angleSetAction (operands : List Byte) (s : State) : Reply :=
  match parseAngleConfig operands with
  | none => .refuse .range s
  | some c => .done c.bytes { s with posture := s.posture.configure c }

/-- ANGLE_SET (R45). -/
def execAngleSet (s : State) : Result := .next (s.carryOut 0x11 (lengthIs 13) false angleSetAction)

/-- ANGLE_CAL(offset) (R47). -/
def angleCalAction : List Byte → State → Reply
  | [hi, lo], s =>
    match parseOffset hi lo with
    | none => .refuse .range s
    | some offset => .done [] { s with posture := { s.posture with offset := offset } }
  | _, s => .refuse .length s

/-- ANGLE_CAL (R47). -/
def execAngleCal (s : State) : Result := .next (s.carryOut 0x12 (lengthIs 2) false angleCalAction)

end Sys2Proof.Machine
end

