-- ==== Sys2Proof/Machine/ImageLoader.lean ====
section
/-! DEFINITION. Chapter 12, Start-up Image: a loader run, the walk through the image, and the sections. -/

namespace Sys2Proof.Machine

/-! ### The start and the end of a run (R180, R185) -/

/-- A loader run starts: RUNNING, cursor 0, counts 0, failure clear; in the same event the maps name slot 0, slots 1
to 7 become EMPTY and repaint-pending is set; the marker is requested (R180, R181, R25, R102). -/
def State.startRun (s : State) : State :=
  State.request
    { s with
      store := s.store.atLoaderStart
      mapper := { s.mapper with repaintPending := true }
      loader := { s.loader with
        running := true, cursor := 0, applied := 0, failed := 0, failureNoted := false
        limit := addressLimit s.outside.nvszHigh, phase := .marker } }
    markerRequest

/-- A run ends: the outcome is stored, a LOADER record offered, the loader enters IDLE, and the posture unit restarts
(R185, R48). -/
def State.endRun (s : State) (outcome : LoadOutcome) (address : Nat) : State :=
  let s := State.offer { s with loader := { s.loader with lastOutcome := outcome } }
    (.loader outcome s.loader.applied s.loader.failed address)
  { s with
    loader := { s.loader with running := false, phase := .idle }
    posture := s.posture.restart }

/-- What an address register of 0 to 65535 holds: past 65535 the spec states no value, and it is a free one (log 11).
-/
def storedAddress (index address : Nat) : Nat :=
  if address ≤ 65535 then address else (Config.cursorPastTop index).toNat

/-- The address where the next byte stands becomes the NVM cursor (R181). -/
def State.moveCursor (s : State) (address : Nat) : State :=
  { s with
    loader := { s.loader with cursor := storedAddress s.freeIndex address }
    freeIndex := if address ≤ 65535 then s.freeIndex else s.freeIndex + 1 }

/-- Step 2 at an address: the section start is set to the cursor, and the 4-byte header is read unless its last byte
lies beyond the address limit (R181). -/
def State.beginSection (s : State) (address : Nat) : State :=
  let s := s.moveCursor address
  let s := { s with loader := { s.loader with sectionStart := s.loader.cursor } }
  if s.loader.limit < address + 3 then s.endRun .overflow s.loader.sectionStart
  else State.request { s with loader := { s.loader with phase := .header } } (.nvm address 4)

/-- The next read of a body: 64 bytes, or the remainder (R181). -/
def State.readBody (s : State) (kind : Byte) (length : Nat) (got : List Byte) : State :=
  State.request { s with loader := { s.loader with phase := .body kind length got } }
    (.nvm s.loader.cursor (min 64 (length - got.length)))

/-! ### Sections (R182 to R184) -/

/-- ANGLE: the tests of ANGLE_SET and ANGLE_CAL together (R182). None is failed. -/
def State.applyAngle (s : State) (body : List Byte) : Option State :=
  match parseAngleConfig (body.take 13), body.drop 13 with
  | some c, [hi, lo] =>
    (parseOffset hi lo).map fun offset =>
      { s with posture := { s.posture.configure c with offset := offset } }
  | _, _ => none

/-- 72 gains of a list, from a position on. -/
def gainsFrom (values : List Nat) (start : Nat) : Vector Nat 72 :=
  Vector.ofFn fun c : Fin 72 => values.getD (start + c.val) 0

/-- GAIN: both tables and both points as one action (R117). None is failed. -/
def State.applyGain (s : State) (body : List Byte) : Option State :=
  let values := be16s body
  let foldPt := values.getD 144 0
  let flatPt := values.getD 145 0
  if (values.take 144).all (· ≤ 4095) = true ∧ pointsInRange foldPt flatPt = true then
    some { s with gain := { s.gain with
      flat := gainsFrom values 0, fold := gainsFrom values 72, foldPt := foldPt, flatPt := flatPt } }
  else none

/-- EMIT: as EMIT_SET for each zone, EMIT_PERIOD and EMIT_FADE, with their clamps; never failed (R152, R182). -/
def State.applyEmit (s : State) (body : List Byte) : Option State :=
  match be16s body with
  | [front, spine, back, period, step] =>
    let e := ((s.emission.setLevel .front front).setLevel .spine spine).setLevel .back back
    some { s with emission := { e with
      pendingPeriod := some (clampPeriod period), fadeStep := clampStep step } }
  | _ => none

/-- GUARD: as GUARD_SET; never failed (R161, R182). -/
def State.applyGuard (s : State) (body : List Byte) : Option State :=
  match body with
  | [h, b] => some { s with guard := s.guard.setCodes h.toNat b.toNat }
  | _ => none

/-- One profile of a PROFILE section: stored if it passes, else the driver's stored profile stays (R182). Whether it
passed comes with the state. -/
def State.applyProfile (s : State) (d : Driver) (c w t : Byte) : Bool × State :=
  match parseProfile c w t with
  | some p => (true, s.storeProfile d p)
  | none => (false, s)

/-- PROFILE: F, S and K in turn; failed if any of the three fails (R182). -/
def State.applyProfiles (s : State) (body : List Byte) : Bool × State :=
  match body with
  | [c1, w1, t1, c2, w2, t2, c3, w3, t3] =>
    let (ok1, s) := s.applyProfile .front c1 w1 t1
    let (ok2, s) := s.applyProfile .spine c2 w2 t2
    let (ok3, s) := s.applyProfile .back c3 w3 t3
    (ok1 && ok2 && ok3, s)
  | _ => (false, s)

/-- The layout that a LAYOUT section builds: its zone modes and entries in their ranges, and the check passed; else
none (R183). -/
def parseLayout (f sp b : Byte) (count : Nat) (entries : List Byte) : Option Layout :=
  match parseModes f sp b, parseEntries count entries with
  | some modes, some es =>
    match Layout.check ⟨modes, es⟩ with
    | none => some ⟨modes, es⟩
    | some _ => none
  | _, _ => none

/-- One slot of the store is written. -/
def State.writeSlot (s : State) (n : Fin 8) (slot : Slot) : State :=
  { s with store := { s.store with slots := s.store.slots.set n slot } }

/-- LAYOUT: refused at admission or with a count above 12, nothing is written; once writing has begun, the slot ends
READY or EMPTY (R183). -/
def State.applyLayout (s : State) (body : List Byte) : Bool × State :=
  match body with
  | n :: f :: sp :: b :: count :: entries =>
    match s.store.editTests n.toNat with
    | .error _ => (false, s)
    | .ok i =>
      if 12 < count.toNat then (false, s)
      else
        match parseLayout f sp b count.toNat entries with
        | some l => (true, s.writeSlot i ⟨.ready, l⟩)
        | none => (false, s.writeSlot i emptySlot)
  | _ => (false, s)

/-- One entry of a MAP section, through the admission of MAP_SET; one not written leaves the pending entry (R184). -/
def State.applyMapEntry (s : State) (p : Posture) (n : Byte) : Bool × State :=
  match s.offerToMap p n.toNat with
  | .ok s' => (true, s')
  | .error _ => (false, s)

/-- MAP: OPEN, BENT, CLOSED_FRONT, CLOSED_BACK in that order; failed if any of the four was not written (R184). -/
def State.applyMap (s : State) (body : List Byte) : Bool × State :=
  match body with
  | [n1, n2, n3, n4] =>
    let (ok1, s) := s.applyMapEntry .opened n1
    let (ok2, s) := s.applyMapEntry .bent n2
    let (ok3, s) := s.applyMapEntry .closedFront n3
    let (ok4, s) := s.applyMapEntry .closedBack n4
    (ok1 && ok2 && ok3 && ok4, s)
  | _ => (false, s)

/-- The length that a section kind requires (10.5, R182); none for an unknown kind. A LAYOUT body shorter than 5 bytes
has no fifth byte and fits no length. -/
def sectionFits (kind : Byte) (body : List Byte) : Option Bool :=
  match kind.toNat with
  | 1 => some (decide (body.length = 15))
  | 2 => some (decide (body.length = 292))
  | 3 => some (decide (body.length = 10))
  | 4 => some (decide (body.length = 2))
  | 5 => some (decide (body.length = 9))
  | 6 => some <| match body[4]? with
    | some count => decide (body.length = 5 + 20 * count.toNat)
    | none => false
  | 7 => some (decide (body.length = 4))
  | _ => none

/-- A kind that has a body the loader reads (10.5). -/
def knownKind (kind : Byte) : Bool := decide (1 ≤ kind.toNat ∧ kind.toNat ≤ 7)

/-- A section whose storing is all or nothing. -/
def State.orKeep (s : State) : Option State → Bool × State
  | some s' => (true, s')
  | none => (false, s)

/-- A known section is applied: whether it counts as applied, and the state after (R182). -/
def State.applySection (s : State) (kind : Byte) (body : List Byte) : Bool × State :=
  if sectionFits kind body = some true then
    match kind.toNat with
    | 1 => s.orKeep (s.applyAngle body)
    | 2 => s.orKeep (s.applyGain body)
    | 3 => s.orKeep (s.applyEmit body)
    | 4 => s.orKeep (s.applyGuard body)
    | 5 => s.applyProfiles body
    | 6 => s.applyLayout body
    | _ => s.applyMap body
  else (false, s)

/-- A section counts as applied, or as failed with the failure noted (R182). -/
def Loader.countSection (l : Loader) (ok : Bool) : Loader :=
  if ok = true then { l with applied := l.applied + 1 }
  else { l with failed := l.failed + 1, failureNoted := true }

/-- Step 6: the section is applied and counted, and the loader goes on at the address after it (R181, R182). -/
def State.finishSection (s : State) (kind : Byte) (body : List Byte) (next : Nat) : State :=
  let (ok, s) := s.applySection kind body
  State.beginSection { s with loader := s.loader.countSection ok } next

/-! ### The walk (R181) -/

/-- Steps 3 to 5 for a section header, read from the section start: marker test, END, skip or body (R181). `next` is
the address after the header. -/
def State.takeHeader (s : State) (marker kind hi lo : Byte) (next : Nat) : State :=
  let length := be16 hi lo
  if marker ≠ 0x3C then s.endRun .format s.loader.sectionStart
  else if kind = 0 then
    s.endRun (if s.loader.failureNoted = true then .partialLoad else .complete) s.loader.sectionStart
  else if length ≠ 0 ∧ s.loader.limit < next + length - 1 then s.endRun .overflow s.loader.sectionStart
  else if knownKind kind = false then s.beginSection (next + length)
  else if length = 0 then s.finishSection kind [] next
  else s.readBody kind length []

/-- A completed NVM read hands its bytes to the loader (R55, R181). -/
def State.loaderTakes (s : State) (bytes : List Byte) : State :=
  match s.loader.phase, bytes with
  | .marker, b :: _ => if b = 0xC3 then s.beginSection 1 else s.endRun .noImage 0
  | .header, [marker, kind, hi, lo] =>
    let next := s.loader.cursor + 4
    (s.moveCursor next).takeHeader marker kind hi lo next
  | .body kind length got, _ =>
    let next := s.loader.cursor + bytes.length
    let s := s.moveCursor next
    if (got ++ bytes).length < length then s.readBody kind length (got ++ bytes)
    else s.finishSection kind (got ++ bytes) next
  | _, _ => s

/-- The NVM address reached by a run that ends with BUS_FAULT (R185). -/
def Loader.busFaultAddress (l : Loader) : Nat :=
  match l.phase with
  | .header | .body .. => l.sectionStart
  | .marker | .idle => 0

/-- An aborted NVM read ends the run with BUS_FAULT (R62, R181). -/
def State.loaderFails (s : State) : State :=
  if s.loader.running = true then s.endRun .busFault s.loader.busFaultAddress else s

/-- IMAGE_RELOAD: with the loader IDLE it starts a run and returns OK (R167, R180). -/
def imageReloadAction (_ : List Byte) (s : State) : Reply := .done [] s.startRun

/-- IMAGE_RELOAD (R180). -/
def execImageReload (s : State) : Result := .next (s.carryOut 0x80 (lengthIs 0) false imageReloadAction)

end Sys2Proof.Machine
end

