-- ==== Sys2Proof/Machine/SideBusMaster.lean ====
section
/-! DEFINITION. Chapter 3, Side Bus Master: the bus state, transactions, arbitration, and aborts. -/

namespace Sys2Proof.Machine

/-- The idle time that frees the bus: 2 ms, in microseconds (R50). -/
def idleLimit : Nat := 2000

/-- The stretch limit: 25 ms (R60). -/
def stretchLimit : Nat := 25000

/-- The total limit: 250 ms (R61). -/
def totalLimit : Nat := 250000

/-! ### Watching the bus (R50) -/

/-- A start condition: BUSY, and the idle timer at 0; SDA has gone low (R50). -/
def SideBus.startSeen (b : SideBus) : SideBus := { b with state := .busy, idleTimer := 0, linesHigh := false }

/-- BUS_START_SEEN (R50). -/
def execBusStartSeen (s : State) : Result := .next { s with bus := s.bus.startSeen }

/-- BUS_STOP_SEEN: SDA has risen while SCL is high, and the bus is FREE (R50). -/
def execBusStopSeen (s : State) : Result := .next { s with bus := { s.bus with state := .free, linesHigh := true } }

/-- BUS_IDLE_TIMEOUT: both lines have been high without a break for 2 ms (R50). -/
def execBusIdleTimeout (s : State) : Result :=
  .next { s with bus := { s.bus with state := .free, idleTimer := idleLimit, linesHigh := true } }

/-- BUS_LINE_LOW: the idle timer is set to 0 and the bus state is unchanged (R50). -/
def execBusLineLow (s : State) : Result := .next { s with bus := { s.bus with idleTimer := 0, linesHigh := false } }

/-! ### What a transaction sends (R54, R55) -/

/-- The fixed address of the start-up memory (R55). -/
def memoryAddress : BitVec 7 := 0x50

/-- What the FL420 sends after the start condition and before the data: orders 2 to 5 of R54, orders 2 to 6 of R55. -/
def Request.opening : Request → List BusSymbol
  | .sensor device register =>
    [.address device false, .byte register, .repeatedStart, .address device true]
  | .nvm address _ =>
    [.address memoryAddress false, .byte (byteOf (address / 256)), .byte (byteOf address), .repeatedStart,
      .address memoryAddress true]

/-- The number of data bytes that a request reads (R54, R55). -/
def Request.dataBytes : Request → Nat
  | .sensor _ _ => 2
  | .nvm _ count => count

/-- What the FL420 sends between the start condition and the stop condition: the opening, an acknowledge after each
data byte but the last, and the not-acknowledge after the last (R54, R55). -/
def Request.sequence (r : Request) : List BusSymbol :=
  r.opening ++ List.replicate (r.dataBytes - 1) .acknowledge ++ [.notAcknowledge]

/-- How many symbols of the opening have been sent when an acknowledge bit is expected: orders 2, 3 and 5 of R54,
orders 2, 3, 4 and 6 of R55 (R59). -/
def Request.acknowledgePoints : Request → List Nat
  | .sensor _ _ => [1, 2, 4]
  | .nvm _ _ => [1, 2, 3, 5]

/-- The FL420 sends on the side bus. -/
def State.sendOnBus (s : State) (symbols : List BusSymbol) : State :=
  { s with outside := { s.outside with sideBus := s.outside.sideBus ++ symbols } }

/-- An attempt ends before its completion: how much it had sent comes from a free value (log 20). -/
def State.breakOff (s : State) (sent : Nat → List BusSymbol) : State :=
  { s.sendOnBus (sent (Config.symbolsSent s.freeIndex)) with freeIndex := s.freeIndex + 1 }

/-- A part of a sequence short of its end. -/
def partOf (symbols : List BusSymbol) (n : Nat) : List BusSymbol := symbols.take (n % symbols.length)

/-! ### Attempts (R52, R57, R58) -/

/-- TRANSACTION_START: a request WAITING moves to ACTIVE on a FREE bus, with a start condition (R52); the attempt
receives its bytes afresh (R58). -/
def execTransactionStart (s : State) : Result :=
  match s.bus.slot, s.bus.state with
  | .waiting r, .free =>
    .next (State.sendOnBus { s with bus := { s.bus.startSeen with
      slot := .active r, linesReleased := false, stretchTimer := 0, received := [] } } [.start])
  | _, _ => .next s

/-- ARBITRATION_LOST: the lines are released, the bus stays BUSY, and the request is WAITING again; the total timer
keeps running, the stretch timer is set to 0, received bytes are discarded (R57, R58). It is lost on a symbol of the
opening, and SDA is low. -/
def execArbitrationLost (s : State) : Result :=
  match s.bus.slot with
  | .active r =>
    .next (State.breakOff
      { s with bus := { s.bus with
          slot := .waiting r, state := .busy, linesReleased := true, linesHigh := false, stretchTimer := 0
          received := [] } }
      (partOf r.opening))
  | _ => .next s

/-! ### Completions and aborts (R54 to R62) -/

/-- What the end of a transaction leaves on the lines: the bus state, and whether both lines are high. -/
structure BusAfter where
  state : BusState
  linesHigh : Bool

/-- After the FL420's own stop condition (R50). -/
def BusAfter.stopped : BusAfter := ⟨.free, true⟩

/-- After an end without a stop condition, with a line held low by another (R58, R60). -/
def BusAfter.held : BusAfter := ⟨.busy, false⟩

/-- A transaction ends with the bytes received, the slot becomes EMPTY, and the lines are as the end leaves them (R50,
R54, R55, R58). -/
def State.endTransaction (s : State) (received : List Byte) (after : BusAfter) : State :=
  { s with bus := { s.bus.emptySlot with
      state := after.state, linesHigh := after.linesHigh, received := received } }

/-- A read completes: the rest of its sequence is sent, and a stop condition, which is not made where arbitration was
lost at the final not-acknowledge bit (R54, R55, R58). -/
def State.completeRead (s : State) (r : Request) (received : List Byte) (lateLoss : Bool) : State :=
  if lateLoss = true then (s.sendOnBus r.sequence).endTransaction received .held
  else (s.sendOnBus (r.sequence ++ [.stop])).endTransaction received .stopped

/-- SENSOR_READ_COMPLETE: the two bytes are handed to the posture unit as a good sample (R54, R28). -/
def execSensorReadComplete (first second : Byte) (lateLoss : Bool) (s : State) : Result :=
  match s.bus.slot with
  | .active (.sensor device register) =>
    .next ((s.completeRead (.sensor device register) [first, second] lateLoss).goodSample first second)
  | _ => .next s

/-- NVM_READ_COMPLETE: the bytes, as many as the byte count, are handed to the loader (R55, R181). -/
def execNvmReadComplete (bytes : List Byte) (lateLoss : Bool) (s : State) : Result :=
  match s.bus.slot with
  | .active (.nvm address count) =>
    if bytes.length = count then .next ((s.completeRead (.nvm address count) bytes lateLoss).loaderTakes bytes)
    else .next s
  | _ => .next s

/-- An abort is handed to the requester: a failed sample, or BUS_FAULT (R62). -/
def State.deliverFailure (s : State) : Request → State
  | .sensor _ _ => s.failedSample
  | .nvm _ _ => s.loaderFails

/-- An abort: the slot becomes EMPTY, the lines are as given, and the requester gets the failure (R59 to R62). -/
def State.abort (s : State) (r : Request) (after : BusAfter) : State :=
  (s.endTransaction [] after).deliverFailure r

/-- The part of the opening that has been sent when a device has refused: it ends with the byte refused (R59). -/
def Request.refusedAt (r : Request) (n : Nat) : List BusSymbol :=
  r.opening.take (r.acknowledgePoints.getD (n % r.acknowledgePoints.length) 1)

/-- NACK_ABORT: a stop condition is made at once (R59). -/
def execNackAbort (s : State) : Result :=
  match s.bus.slot with
  | .active r => .next ((s.breakOff fun n => r.refusedAt n ++ [.stop]).abort r .stopped)
  | _ => .next s

/-- STRETCH_TIMEOUT: both lines are released without a stop condition, and the bus state is BUSY (R60). -/
def execStretchTimeout (s : State) : Result :=
  match s.bus.slot with
  | .active r => .next ((s.breakOff (partOf r.sequence)).abort r .held)
  | _ => .next s

/-- TOTAL_TIMEOUT: in WAITING the bus is left as it is; in ACTIVE a stop condition is made if SCL can be high, else
both lines are released without one (R61). -/
def execTotalTimeout (sclHeldLow : Bool) (s : State) : Result :=
  match s.bus.slot with
  | .waiting r => .next (s.abort r ⟨s.bus.state, s.bus.linesHigh⟩)
  | .active r =>
    if sclHeldLow = true then .next ((s.breakOff (partOf r.sequence)).abort r .held)
    else .next ((s.breakOff fun n => partOf r.sequence n ++ [.stop]).abort r .stopped)
  | .empty => .next s

/-- A reset abandons a transaction on the bus with no stop condition, whatever it had sent (R51). -/
def State.abandonTransaction (s : State) : State :=
  match s.bus.slot with
  | .active r => s.breakOff (fun n => r.sequence.take (n % (r.sequence.length + 1)))
  | .waiting _ | .empty => s

end Sys2Proof.Machine
end

