-- ==== Sys2Proof/Machine/ControlUnit.lean ====
section
/-! DEFINITION. Chapter 10, Control Packets and Responses: packet arrivals, unknown commands, STATUS_READ, FAULT_CLEAR,
and the resets. -/

namespace Sys2Proof.Machine

/-- The capacity of the command queue (R164). -/
def commandCapacity : Nat := 8

/-- CTRL: the packet is placed on the command queue, or discarded with OVERRUN set when the queue holds 8 (R164). -/
def execCtrl (first code count : Byte) (operands : List Byte) (s : State) : Result :=
  if s.control.queue.length < commandCapacity then
    .next { s with control := { s.control with
      queue := s.control.queue ++ [⟨first, code, count, operands⟩] } }
  else .next { s with control := { s.control with overrun := true } }

/-- The command codes of the command summary (10.4). -/
def listedCodes : List Byte :=
  [0x01, 0x02, 0x03, 0x04, 0x05, 0x06, 0x07, 0x10, 0x11, 0x12, 0x20, 0x21, 0x30, 0x40, 0x41, 0x42, 0x50, 0x60, 0x61,
    0x70, 0x71, 0x72, 0x80]

/-- UNKNOWN_COMMAND: the oldest packet's command code is not listed (R165, test 1). -/
def execUnknownCommand (s : State) : Result :=
  match s.control.queue with
  | p :: _ => if p.code ∈ listedCodes then .next s else .next (s.respond .unknown [])
  | [] => .next s

/-- The 19 bytes that STATUS_READ returns (R168, 10.5). -/
def State.statusBytes (s : State) : List Byte :=
  [byteOf s.posture.posture.code, byteOf s.posture.facing.code] ++ wordBytes s.posture.f ++ wordBytes s.posture.w
    ++ [boolByte s.posture.sensorLost, byteOf s.guard.state.code, byteOf s.mapper.copySlot.val,
      boolByte s.loader.running, byteOf s.loader.lastOutcome.code, flagsByte s.engine.faultFlags,
      boolByte s.emission.latch]
    ++ wordBytes s.reports.occupancy ++ tickBytes s.guard.tick

/-- STATUS_READ (R168). -/
def statusReadAction (_ : List Byte) (s : State) : Reply := .done s.statusBytes s

/-- STATUS_READ (R168): exempt from BUSY (R165, R167). -/
def execStatusRead (s : State) : Result := .next (s.carryOut 0x70 (lengthIs 0) true statusReadAction)

/-- FAULT_CLEAR: the driver fault flags are cleared, and the estop latch if ESTOP is inactive (R151, R170). -/
def faultClearAction (_ : List Byte) (s : State) : Reply :=
  let latch := s.emission.latch && s.outside.estop
  .done [boolByte latch, 0]
    { s with
      engine := { s.engine with faultFlags := PerZone.same false }
      emission := { s.emission with latch := latch } }

/-- FAULT_CLEAR (R170). -/
def execFaultClear (s : State) : Result := .next (s.carryOut 0x72 (lengthIs 0) false faultClearAction)

/-! ### Resets (R80, R169) -/

/-- A reset: every block takes its reset values, the side bus lines are released, a loader run starts, and ESTOP acts at
once if it is active (R51, R154, R180). The pins keep their levels; what has left the part is not undone. -/
def State.resetPart (s : State) : State :=
  let s := s.abandonTransfer.abandonTransaction
  State.estopActs
    { State.reset with
      loader := Loader.resetValue s.outside.nvszHigh
      outside := s.outside
      freeIndex := s.freeIndex
      pending := s.pending }

/-- RESET: power-on reset or assertion of RSTN (R80). -/
def execReset (s : State) : Result := .next s.resetPart

/-- SOFT_RESET: its RESP is sent, and the part is then reset exactly as by RSTN (R169). -/
def execSoftReset (s : State) : Result :=
  match s.turn 0x71 (lengthIs 0) false with
  | .notDue => .next s
  | .refused status => .next (s.respond status [])
  | .granted _ => .next (s.respond .ok []).resetPart

end Sys2Proof.Machine
end

