-- ==== Sys2Proof/Machine/Clock.lean ====
section
/-! DEFINITION. The passing of time while the block idles: what step does on an empty queue (log 1). Every clock-driven
counter that runs moves by a free amount and stays below the limit whose event has a row of its own (log 9). -/

namespace Sys2Proof.Machine

open Sys2Proof.Config in
/-- A counter that runs up to just below its limit. -/
def runsUpTo (clock : Clock) (index limit count : Nat) : Nat :=
  min (count + clockAdvance clock index) (max count (limit - 1))

open Sys2Proof.Config in
/-- A count of owed beats that runs down to 1. -/
def runsDownTo1 (clock : Clock) (index count : Nat) : Nat := max (count - clockAdvance clock index) (min count 1)

/-- The side bus timers (R50, R52, R56): the idle timer counts while the bus is BUSY and both lines are high; the total
timer while a request is in the slot; the stretch timer takes any value below its limit in an ACTIVE transaction. Lines
that the FL420 has released may come high again (log 26). -/
def SideBus.timePasses (b : SideBus) (index : Nat) : SideBus :=
  { b with
    linesHigh := b.linesHigh || (b.linesReleased && Config.linesRise index)
    idleTimer := if b.state = .busy ∧ b.linesHigh = true then runsUpTo .busIdle index idleLimit b.idleTimer
      else b.idleTimer
    totalTimer := match b.slot with
      | .empty => b.totalTimer
      | .waiting _ | .active _ => runsUpTo .busTotal index totalLimit b.totalTimer
    stretchTimer := match b.slot with
      | .active _ => Config.clockAdvance .busStretch index % stretchLimit
      | .empty | .waiting _ => b.stretchTimer }

/-- The panel bus beats (R126, R127, R128): beats since the last close, owed beats, and consecutive held beats. -/
def Engine.timePasses (e : Engine) (index : Nat) : Engine :=
  { e with
    lastClose := e.lastClose.map fun c => { c with beatsSince := c.beatsSince + Config.clockAdvance .beat index }
    phase := match e.phase with
      | .turnaround owed => .turnaround (runsDownTo1 .beat index owed)
      | .retry owed => .retry (runsDownTo1 .beat index owed)
      | .idle => .idle
      | .window => .window
      | .data => .data
    holdCount := match e.phase with
      | .window | .data => Config.clockAdvance .held index % holdLimitCount
      | .idle | .turnaround _ | .retry _ => e.holdCount }

/-- The three period counters count together at 4 MHz (R140). -/
def EmissionUnit.timePasses (e : EmissionUnit) (index : Nat) : EmissionUnit :=
  { e with zones := e.zones.map fun z => { z with counter := runsUpTo .pwm index e.period z.counter } }

/-- An ATTN pulse runs down (R178). -/
def Reports.timePasses (q : Reports) (index : Nat) : Reports :=
  { q with pulse := q.pulse.map (runsDownTo1 .pulse index) }

/-- A driver by its number: F is 0, S is 1, K is 2. -/
def Zone.ofIndex (n : Fin 3) : Zone :=
  match n with
  | 0 => .front
  | 1 => .spine
  | 2 => .back

/-- Time passes: the clock-driven counters change, side bus lines may come high, and the HOLD or REJECT line spoken of
may be another driver's; nothing else (log 1, log 26, log 29). -/
def State.timePasses (s : State) : State :=
  { s with
    posture := { s.posture with
      sampleTimer := runsUpTo .sample s.freeIndex (samplePeriod s.posture.config.rate) s.posture.sampleTimer }
    bus := s.bus.timePasses s.freeIndex
    engine := s.engine.timePasses s.freeIndex
    emission := s.emission.timePasses s.freeIndex
    reports := s.reports.timePasses s.freeIndex
    outside := { s.outside with lineFrom := (Config.lineFrom s.freeIndex).map Zone.ofIndex }
    freeIndex := s.freeIndex + 1 }

end Sys2Proof.Machine
end

