-- ==== Sys2Proof/Machine/ReportQueue.lean ====
section
/-! DEFINITION. Chapter 11, Reports and Attention: draining, the ATTN settings and the end of a pulse. -/

namespace Sys2Proof.Machine

/-- The number of records REPORT_READ asks for: 0 is read as 1, and values above 8 as 8 (R176). -/
def readCount (n : Nat) : Nat := max 1 (min n 8)

/-- REPORT_READ(n) (R176). -/
def reportReadAction : List Byte → State → Reply
  | [n], s =>
    if s.reports.records.isEmpty then .done (noneRecordBytes (s.guard.tick.truncate 16)) s
    else
      .done ((s.reports.records.take (readCount n.toNat)).flatMap Record.bytes)
        { s with reports := { s.reports with records := s.reports.records.drop (readCount n.toNat) } }
  | _, s => .refuse .length s

/-- REPORT_READ (R176): exempt from BUSY (R165, R167). -/
def execReportRead (s : State) : Result := .next (s.carryOut 0x60 (lengthIs 1) true reportReadAction)

/-- ATTN_SET(mask, mode) (R177): bits 0 and 7 of the mask are ignored; a change to LEVEL ends any pulse in progress,
and records already held give no pulse. -/
def attnSetAction : List Byte → State → Reply
  | [mask, mode], s =>
    match AttnMode.ofCode? mode.toNat with
    | none => .refuse .range s
    | some m =>
      .done []
        { s with reports := { s.reports with
            attnMask := mask &&& 0x7E
            attnMode := m
            pulse := match m with
              | .level => none
              | .pulse => s.reports.pulse } }
  | _, s => .refuse .length s

/-- ATTN_SET (R177). -/
def execAttnSet (s : State) : Result := .next (s.carryOut 0x61 (lengthIs 2) false attnSetAction)

/-- ATTN_PULSE_END: the 1 µs has passed and ATTN returns low (R178). -/
def execAttnPulseEnd (s : State) : Result := .next { s with reports := { s.reports with pulse := none } }

end Sys2Proof.Machine
end

