-- ==== Sys2Proof/Machine/Dispatch.lean ====
section
/-! DEFINITION. The meaning of each command: one arm per constructor of Instr, in the order of the table. -/

namespace Sys2Proof.Machine

/-- A command's effect on everything but the queue of waiting commands. -/
def exec (i : Instr) (s : State) : Host.Outcome State Fault Refusal :=
  match i with
  | .reset => Sys2Proof.Machine.execReset s
  | .softReset => Sys2Proof.Machine.execSoftReset s
  | .ctrl first code count operands => Sys2Proof.Machine.execCtrl first code count operands s
  | .unknownCommand => Sys2Proof.Machine.execUnknownCommand s
  | .otherPacket => Sys2Proof.Machine.execOtherPacket s
  | .slotClear => Sys2Proof.Machine.execSlotClear s
  | .slotZones => Sys2Proof.Machine.execSlotZones s
  | .entryPut => Sys2Proof.Machine.execEntryPut s
  | .entryDrop => Sys2Proof.Machine.execEntryDrop s
  | .slotCheck => Sys2Proof.Machine.execSlotCheck s
  | .slotRead => Sys2Proof.Machine.execSlotRead s
  | .mapSet => Sys2Proof.Machine.execMapSet s
  | .faceSet => Sys2Proof.Machine.execFaceSet s
  | .angleSet => Sys2Proof.Machine.execAngleSet s
  | .angleCal => Sys2Proof.Machine.execAngleCal s
  | .gainLoad => Sys2Proof.Machine.execGainLoad s
  | .gainPoints => Sys2Proof.Machine.execGainPoints s
  | .profileSet => Sys2Proof.Machine.execProfileSet s
  | .emitSet => Sys2Proof.Machine.execEmitSet s
  | .emitPeriod => Sys2Proof.Machine.execEmitPeriod s
  | .emitFade => Sys2Proof.Machine.execEmitFade s
  | .guardSet => Sys2Proof.Machine.execGuardSet s
  | .reportRead => Sys2Proof.Machine.execReportRead s
  | .attnSet => Sys2Proof.Machine.execAttnSet s
  | .statusRead => Sys2Proof.Machine.execStatusRead s
  | .faultClear => Sys2Proof.Machine.execFaultClear s
  | .imageReload => Sys2Proof.Machine.execImageReload s
  | .fopen frame width height => Sys2Proof.Machine.execFopen frame width height s
  | .line row payload => Sys2Proof.Machine.execLine row payload s
  | .fclose linesSent => Sys2Proof.Machine.execFclose linesSent s
  | .sampleTimerExpiry => Sys2Proof.Machine.execSampleTimerExpiry s
  | .busStartSeen => Sys2Proof.Machine.execBusStartSeen s
  | .busStopSeen => Sys2Proof.Machine.execBusStopSeen s
  | .busIdleTimeout => Sys2Proof.Machine.execBusIdleTimeout s
  | .transactionStart => Sys2Proof.Machine.execTransactionStart s
  | .arbitrationLost => Sys2Proof.Machine.execArbitrationLost s
  | .sensorReadComplete first second lateLoss => Sys2Proof.Machine.execSensorReadComplete first second lateLoss s
  | .nvmReadComplete bytes lateLoss => Sys2Proof.Machine.execNvmReadComplete bytes lateLoss s
  | .nackAbort => Sys2Proof.Machine.execNackAbort s
  | .stretchTimeout => Sys2Proof.Machine.execStretchTimeout s
  | .totalTimeout sclHeldLow => Sys2Proof.Machine.execTotalTimeout sclHeldLow s
  | .frameSetUp => Sys2Proof.Machine.execFrameSetUp s
  | .lineItem => Sys2Proof.Machine.execLineItem s
  | .waitingRunPlaced => Sys2Proof.Machine.execWaitingRunPlaced s
  | .frameEnd => Sys2Proof.Machine.execFrameEnd s
  | .fillSweepRun => Sys2Proof.Machine.execFillSweepRun s
  | .postureNotice => Sys2Proof.Machine.execPostureNotice s
  | .mapSetNotice => Sys2Proof.Machine.execMapSetNotice s
  | .guardStateNotice => Sys2Proof.Machine.execGuardStateNotice s
  | .dropNotice => Sys2Proof.Machine.execDropNotice s
  | .grant => Sys2Proof.Machine.execGrant s
  | .turnaroundDone => Sys2Proof.Machine.execTurnaroundDone s
  | .windowAccepted => Sys2Proof.Machine.execWindowAccepted s
  | .reject => Sys2Proof.Machine.execReject s
  | .retryDone => Sys2Proof.Machine.execRetryDone s
  | .holdLimit pairsDone => Sys2Proof.Machine.execHoldLimit pairsDone s
  | .runFinished => Sys2Proof.Machine.execRunFinished s
  | .periodEnd => Sys2Proof.Machine.execPeriodEnd s
  | .estopAsserted => Sys2Proof.Machine.execEstopAsserted s
  | .estopReleased => Sys2Proof.Machine.execEstopReleased s
  | .tick => Sys2Proof.Machine.execTick s
  | .guardTimerExpiry => Sys2Proof.Machine.execGuardTimerExpiry s
  | .attnPulseEnd => Sys2Proof.Machine.execAttnPulseEnd s
  | .busLineLow => Sys2Proof.Machine.execBusLineLow s

end Sys2Proof.Machine
end

