-- ==== Sys2Proof/Safety.lean ====
section
/-! DEFINITION. What counts as a good state, in the terms that claims use: the laws the spec says hold in every state of
the part. Each is a property of one state; that steps keep it is a claim. -/

namespace Sys2Proof.Safety

open Sys2Proof.Machine

/-! ### Layouts (R2, R4, R5, R18, R24) -/

/-- A rectangle covers a pixel (R2). -/
abbrev Covers (r : Rect) (col row : Nat) : Prop :=
  r.col ≤ col ∧ col < r.col + r.width ∧ r.row ≤ row ∧ row < r.row + r.height

/-- A panel pixel belongs to a zone (R1). -/
abbrev InZone (z : Zone) (col row : Nat) : Prop :=
  z.firstCol ≤ col ∧ col < z.firstCol + z.width ∧ row < panelRows

/-- A rectangle lies inside a zone (R2). -/
abbrev LiesIn (r : Rect) (z : Zone) : Prop :=
  z.firstCol ≤ r.col ∧ r.col + r.width ≤ z.firstCol + z.width ∧ r.row + r.height ≤ panelRows

/-- The layout law: each entry's destination lies inside one LIVE zone, no two destinations share a pixel, and the areas
of the entries in each LIVE zone sum to that zone's area (R18). -/
structure LayoutLaw (l : Layout) : Prop where
  inside : ∀ e ∈ l.entries, ∃ z, LiesIn e.dst z ∧ l.modes.get z = .live
  disjoint : l.entries.Pairwise fun a b => ∀ col row, ¬ (Covers a.dst col row ∧ Covers b.dst col row)
  covered : ∀ z, l.modes.get z = .live → areaInZone l.entries z = z.area

/-- Every entry starts at an even column and has an even width (R15, ALIGN). -/
abbrev Aligned (l : Layout) : Prop := ∀ e ∈ l.entries, e.dst.col % 2 = 0 ∧ e.dst.width % 2 = 0

/-- The slots: slot 0 is READY with the identity layout, a READY slot obeys the layout law and is aligned, an EMPTY slot
reads back as all zones LIVE and no entries, and a record holds 0 to 12 entries whose fields lie in their ranges (R3 to
R6, R15, R18). -/
structure SlotLaw (st : LayoutStore) : Prop where
  identity : st.slots[0] = identitySlot
  ready : ∀ i : Fin 8, st.slots[i].state = .ready → LayoutLaw st.slots[i].layout ∧ Aligned st.slots[i].layout
  empty : ∀ i : Fin 8, st.slots[i].state = .empty → st.slots[i].layout = emptyLayout
  count : ∀ i : Fin 8, st.slots[i].layout.entries.length ≤ 12
  ranges : ∀ i : Fin 8, ∀ e ∈ st.slots[i].layout.entries, e.inRange = true

/-- The map law: every slot named in the active or the pending map is READY (R24). -/
abbrev MapLaw (st : LayoutStore) : Prop := ∀ i : Fin 8, st.inUse i = true → st.slots[i].state = .ready

/-- The layouts of the part: slots, maps, and the frame copy, which always comes from a READY slot (R18, R24, R84). -/
structure LayoutsLaw (s : State) : Prop where
  slots : SlotLaw s.store
  maps : MapLaw s.store
  copyLaw : LayoutLaw s.mapper.copy
  copyAligned : Aligned s.mapper.copy
  copyRanges : ∀ e ∈ s.mapper.copy.entries, e.inRange = true
  copyCount : s.mapper.copy.entries.length ≤ 12

/-! ### Queues (R66, R121, R164, R173) -/

/-- No queue is ever over its capacity: 8 CTRL packets, 40 intake items with the reservation, 8 runs for each driver, 512
bytes of records; and an item is reserved exactly while a frame is RECEIVING (R66, R121, R164, R173). -/
structure CapacityLaw (s : State) : Prop where
  commands : s.control.queue.length ≤ 8
  items : s.intake.queue.length + (if s.intake.reserved = true then 1 else 0) ≤ 40
  reservation : s.intake.reserved = true ↔ s.intake.state = .receiving
  runs : ∀ d : Driver, (s.engine.queues.get d).length ≤ 8
  records : s.reports.occupancy ≤ 512

/-! ### Posture sensing (R32, R33, R35, R41, R44, R45, R47, R110) -/

/-- The ranges of the posture unit and of the points it reads (R32, R33, R35, R41, R44, R45, R47, R110). -/
structure AngleLaw (s : State) : Prop where
  rate : s.posture.config.rate ≤ 3
  shift : s.posture.config.k ≤ 5
  thresholds : s.posture.config.thresholds.closedEnter < s.posture.config.thresholds.closedExit
    ∧ s.posture.config.thresholds.closedExit ≤ s.posture.config.thresholds.openExit
    ∧ s.posture.config.thresholds.openExit < s.posture.config.thresholds.openEnter
    ∧ s.posture.config.thresholds.openEnter ≤ 2048
  dwell : 1 ≤ s.posture.config.dwell ∧ s.posture.config.dwell ≤ 255
  offset : -2048 ≤ s.posture.offset ∧ s.posture.offset ≤ 2047
  filter : ∀ y, s.posture.y = some y → y ≤ 32768
  angle : s.posture.f ≤ 2048
  weight : s.posture.w ≤ 256
  count : s.posture.dwellCount < s.posture.config.dwell
  candidate : s.posture.candidate = none ↔ s.posture.dwellCount = 0
  misses : s.posture.missCount ≤ 8
  points : s.gain.foldPt < s.gain.flatPt ∧ s.gain.flatPt ≤ 2048

/-! ### Side bus (R27, R52, R53) -/

/-- The request is the loader's. -/
def isNvm : Request → Bool
  | .nvm _ _ => true
  | .sensor _ _ => false

/-- The request in the slot. -/
def slotRequest : TransactionSlot → Option Request
  | .empty => none
  | .waiting r | .active r => some r

/-- The slot and the waiting request hold at most one request of each kind: a sensor read is in the slot exactly while one
is outstanding, and an NVM read is held exactly while the loader is RUNNING; only an NVM read waits behind the slot, and
only behind a sensor read; the marker is read as 1 byte and a header as 4; the FL420 drives the lines exactly while a
transaction is ACTIVE (R27, R51, R52, R53, R57, R181). -/
structure RequestLaw (s : State) : Prop where
  sensor : s.posture.outstanding = true ↔ ∃ a r, slotRequest s.bus.slot = some (.sensor a r)
  nvm : s.loader.running = true ↔
    (∃ a n, slotRequest s.bus.slot = some (.nvm a n)) ∨ (∃ a n, s.bus.waitingRequest = some (.nvm a n))
  behind : ∀ r, s.bus.waitingRequest = some r →
    isNvm r = true ∧ ∃ a g, slotRequest s.bus.slot = some (.sensor a g)
  phase : s.loader.running = true ↔ s.loader.phase ≠ .idle
  header : s.loader.phase = .header → ∀ a n,
    slotRequest s.bus.slot = some (.nvm a n) ∨ s.bus.waitingRequest = some (.nvm a n) → n = 4
  marker : s.loader.phase = .marker → ∀ a n,
    slotRequest s.bus.slot = some (.nvm a n) ∨ s.bus.waitingRequest = some (.nvm a n) → n = 1
  driven : s.bus.linesReleased = false ↔ ∃ r, s.bus.slot = .active r

/-! ### The intake queue (R66, R83) -/

/-- The account of frames that a queue holds, read from a point where a frame is open or not: each frame stands as one
FRAME_START, its LINE items and one FRAME_END; the answer is whether a frame is left open, or none if the items stand
in another order (R66). -/
def frameAccount : Bool → List IntakeItem → Option Bool
  | isOpen, [] => some isOpen
  | false, .frameStart .. :: rest => frameAccount true rest
  | true, .line .. :: rest => frameAccount true rest
  | true, .frameEnd :: rest => frameAccount false rest
  | _, _ => none

/-- The items stand in the order of R66, so the mapper finds a FRAME_START first after a FRAME_END, and never a LINE or a
FRAME_END while no frame is open; a frame is left open exactly while the intake is RECEIVING (R66, R83). -/
abbrev AccountLaw (s : State) : Prop :=
  frameAccount s.mapper.frameOpen s.intake.queue = some (decide (s.intake.state = .receiving))
    ∧ (s.mapper.frameOpen = true → s.mapper.frameInHand.isSome = true)
    ∧ (s.mapper.lineInHand.isSome = true → s.mapper.frameOpen = true)
    ∧ (s.mapper.lineInHand.isSome = true ↔ ∃ r, s.mapper.waitingRun = some r ∧ r.isFill = false)

/-- The engine's runs: each queue holds runs for its own driver, not yet attempted; the run in transfer is there exactly
while the bus is not IDLE, with at most 4 attempts, fewer than 4 in RETRY and none in TURNAROUND (R121, R123, R127,
R128). -/
structure TransferLaw (s : State) : Prop where
  own : ∀ d : Driver, ∀ r ∈ s.engine.queues.get d, r.driver = d ∧ r.attempts = 0
  waits : ∀ r, s.mapper.waitingRun = some r → r.attempts = 0
  busy : s.engine.inTransfer.isSome = true ↔ s.engine.phase ≠ .idle
  window : (s.engine.phase = .window ∨ s.engine.phase = .data) →
    ∀ r, s.engine.inTransfer = some r → 1 ≤ r.attempts ∧ r.attempts ≤ 4
  retry : ∀ n, s.engine.phase = .retry n → ∀ r, s.engine.inTransfer = some r → 1 ≤ r.attempts ∧ r.attempts ≤ 3
  turnaround : ∀ n, s.engine.phase = .turnaround n → ∀ r, s.engine.inTransfer = some r → r.attempts = 0

/-! ### References (R67, R113) -/

/-- The runs that the engine holds: those in the queues and the one in transfer (R120). -/
def heldRuns (e : Engine) : List Run :=
  e.queues.front ++ e.queues.spine ++ e.queues.back ++ e.inTransfer.toList

/-- The number of held runs that reference a line slot. -/
def lineRefs (e : Engine) (n : Fin 32) : Nat := (heldRuns e).countP fun r => r.source.lineSlot? = some n

/-- The number of held runs that reference a snapshot buffer. -/
def snapshotRefs (e : Engine) (n : Fin 2) : Nat := (heldRuns e).countP fun r => r.source.snapshot? = some n

/-- How many LINE items and lines in hand hold a line slot for the mapper (R66, R67). -/
def mapperHolds (s : State) (n : Fin 32) : Nat :=
  s.intake.queue.countP (fun | .line m _ => m = n | _ => false)
    + (if s.mapper.lineInHand.any (·.slot = n) then 1 else 0)

/-- What the line slot holds agrees with who uses it. -/
def slotAgrees (slot : Option LineSlot) (refs holds : Nat) : Prop :=
  match slot with
  | none => refs = 0 ∧ holds = 0
  | some l => l.refs = refs ∧ holds = (if l.hold = true then 1 else 0) ∧ (l.hold = true ∨ 0 < refs)

/-- A line slot is free exactly when the mapper has finished with it and no queued or transferring run references it, and
an occupied slot's count is the number of those runs (R67). -/
abbrev LineStoreLaw (s : State) : Prop :=
  ∀ n : Fin 32, slotAgrees s.intake.lines[n] (lineRefs s.engine n) (mapperHolds s n)

/-- A buffer's count is the number of queued and transferring runs that carry it, at most 9 (R113). -/
abbrev SnapshotLaw (s : State) : Prop :=
  ∀ n : Fin 2, s.gain.buffers[n].refs = snapshotRefs s.engine n ∧ s.gain.buffers[n].refs ≤ 9

/-- The references of runs: the line slots and the snapshot buffers count them as R67 and R113 say; the waiting copy run
is of the line in hand; only runs for driver S carry a snapshot; queue S holds at most 8; and the engine's runs stand as
`TransferLaw` says. -/
structure ReferencesLaw (s : State) : Prop where
  lines : LineStoreLaw s
  snapshots : SnapshotLaw s
  waitingLine : ∀ r, s.mapper.waitingRun = some r → ∀ n, r.source.lineSlot? = some n →
    ∃ l, s.mapper.lineInHand = some l ∧ l.slot = n
  spineOnly : ∀ r, (r ∈ heldRuns s.engine ∨ s.mapper.waitingRun = some r) →
    r.source.snapshot?.isSome = true → r.driver = .spine
  room : s.engine.queues.spine.length ≤ 8
  transfer : TransferLaw s

/-! ### Runs (R89, R95, R120, R121, R128) -/

/-- A run lies in its zone: 1 to 432 pairs inside the zone's driver columns, on a panel row; a snapshot is carried by
copy runs for driver S alone (R89, R95, R113, R120). -/
structure RunLaw (r : Run) : Prop where
  even : r.count % 2 = 0
  least : 2 ≤ r.count
  columns : r.firstCol + r.count ≤ r.driver.width
  row : r.row < panelRows
  snapshot : r.source.snapshot?.isSome = true ↔ r.driver = .spine ∧ r.isFill = false

/-- An item of the fill list lies in its zone (R94). -/
structure FillLaw (item : FillItem) : Prop where
  even : item.width % 2 = 0
  least : 2 ≤ item.width
  columns : item.firstCol + item.width ≤ item.driver.width
  rows : item.row + item.height ≤ panelRows
  height : 1 ≤ item.height

/-! ### Emission (R140 to R149) -/

/-- One zone's ranges (R140, R142, R145, R146). -/
structure ZoneLaw (z : ZoneEmission) (period : Nat) : Prop where
  commanded : z.commanded ≤ 1023
  current : z.current ≤ 1023
  onCount : z.onCount ≤ 4096
  counter : z.counter < period

/-- The emission unit: the ranges, the three counters together, and a panel dark under the estop latch, which is set
whenever ESTOP is active (R140, R145 to R149). -/
structure EmissionLaw (s : State) : Prop where
  zones : ∀ z : Zone, ZoneLaw (s.emission.zones.get z) s.emission.period
  together : ∀ z : Zone, (s.emission.zones.get z).counter = s.emission.zones.front.counter
  period : 64 ≤ s.emission.period ∧ s.emission.period ≤ 4096
  pendingPeriod : ∀ p, s.emission.pendingPeriod = some p → 64 ≤ p ∧ p ≤ 4096
  step : 1 ≤ s.emission.fadeStep ∧ s.emission.fadeStep ≤ 1023
  latched : s.emission.latch = true →
    ∀ z : Zone, (s.emission.zones.get z).current = 0 ∧ (s.emission.zones.get z).onCount = 0
  estop : s.outside.estop = true → s.emission.latch = true

/-! ### Link guard (R156, R160) -/

/-- The guard timer runs in each state as R156 says: stopped in BLANK and in LIVE with a hold code of 0, else running
against the limit of the state and not past it; the codes lie in their ranges (R156, R160). -/
structure GuardLaw (g : LinkGuard) : Prop where
  codes : g.holdCode ≤ 255 ∧ 1 ≤ g.blankCode ∧ g.blankCode ≤ 255
  live : g.state = .live →
    if g.holdCode = 0 then g.timer = none
    else ∃ t, g.timer = some t ∧ t.limit = g.holdCode * 16 ∧ t.count ≤ t.limit
  hold : g.state = .hold → ∃ t, g.timer = some t ∧ t.limit = g.blankCode * 64 ∧ t.count ≤ t.limit
  blank : g.state = .blank → g.timer = none

/-! ### Gains (R107, R111, R112) -/

/-- Every gain of the tables and of the snapshots lies in 0 to 4095 (R107, R111). -/
structure GainLaw (g : GainUnit) : Prop where
  flat : ∀ c : Fin 72, g.flat[c] ≤ 4095
  fold : ∀ c : Fin 72, g.fold[c] ≤ 4095
  buffers : ∀ n : Fin 2, ∀ c : Fin 72, g.buffers[n].gains[c] ≤ 4095

/-- The angle chain with the gains that w blends (R107, R111, R112). -/
structure SensingLaw (s : State) : Prop where
  angles : AngleLaw s
  gains : GainLaw s.gain

/-! ### Commands at the head of the command queue (R163 to R166) -/

/-- The packet at the head of the command queue carries this command code and these operand bytes, and its operand byte
count is the number of bytes it delivers (R163, R165). -/
structure Asks (s : State) (p : Packet) (rest : List Packet) (code : Byte) (operands : List Byte) : Prop where
  head : s.control.queue = p :: rest
  codeIs : p.code = code
  operandsAre : p.operands = operands
  countIs : p.count.toNat = operands.length

/-- The state after the RESP of the packet at the head has been sent: it carries the packet's tag, OVERRUN as it stands,
the status and the data; the packet has left the queue and OVERRUN is clear (R164, R166). -/
def answered (s : State) (p : Packet) (rest : List Packet) (status : Status) (data : List Byte) : State :=
  { s with
    control := ⟨rest, false⟩
    outside := { s.outside with
      returnLane := s.outside.returnLane ++ [⟨p.tag, s.control.overrun, status, data⟩] } }

/-- One row of the command summary: the command, its code, which operand bytes have the number it requires, and whether
it is carried out while the loader is RUNNING (10.4, R165, R167). -/
structure CommandRow where
  command : Instr
  code : Byte
  fits : List Byte → Bool
  exempt : Bool

/-- The number of operand bytes is the one given. -/
def bytesAre (n : Nat) (operands : List Byte) : Bool := decide (operands.length = n)

/-- GAIN_LOAD requires 3 + 2 × count bytes, where count is its third byte; fewer than 3 bytes do not fit (R165). -/
def gainBytes (operands : List Byte) : Bool :=
  match operands[2]? with
  | some count => decide (operands.length = 3 + 2 * count.toNat)
  | none => false

/-- The command summary (10.4). -/
def commandSummary : List CommandRow :=
  [⟨.slotClear, 0x01, bytesAre 1, false⟩, ⟨.slotZones, 0x02, bytesAre 4, false⟩,
    ⟨.entryPut, 0x03, bytesAre 22, false⟩, ⟨.entryDrop, 0x04, bytesAre 1, false⟩,
    ⟨.slotCheck, 0x05, bytesAre 1, false⟩, ⟨.slotRead, 0x06, bytesAre 3, false⟩,
    ⟨.mapSet, 0x07, bytesAre 2, false⟩, ⟨.faceSet, 0x10, bytesAre 1, false⟩,
    ⟨.angleSet, 0x11, bytesAre 13, false⟩, ⟨.angleCal, 0x12, bytesAre 2, false⟩,
    ⟨.gainLoad, 0x20, gainBytes, false⟩, ⟨.gainPoints, 0x21, bytesAre 4, false⟩,
    ⟨.profileSet, 0x30, bytesAre 4, false⟩, ⟨.emitSet, 0x40, bytesAre 3, false⟩,
    ⟨.emitPeriod, 0x41, bytesAre 2, false⟩, ⟨.emitFade, 0x42, bytesAre 2, false⟩,
    ⟨.guardSet, 0x50, bytesAre 2, false⟩, ⟨.reportRead, 0x60, bytesAre 1, true⟩,
    ⟨.attnSet, 0x61, bytesAre 2, false⟩, ⟨.statusRead, 0x70, bytesAre 0, true⟩,
    ⟨.softReset, 0x71, bytesAre 0, false⟩, ⟨.faultClear, 0x72, bytesAre 0, false⟩,
    ⟨.imageReload, 0x80, bytesAre 0, false⟩]

/-- The edit commands, with their codes, their byte numbers, and whether test 4 of R8 applies to them. -/
def editCommands : List (Instr × Byte × Nat × Bool) :=
  [(.slotClear, 0x01, 1, false), (.slotZones, 0x02, 4, true), (.entryPut, 0x03, 22, true),
    (.entryDrop, 0x04, 1, true)]

/-! ### When the mapper is free (R83, R91, R92) -/

/-- The mapper can take the item at the head of the intake queue: no line is in hand, it is not stopped on a copy run,
and no notice waits (R83, R91, R92, R103, R159). -/
structure MapperFree (s : State) : Prop where
  line : s.mapper.lineInHand = none
  waiting : ∀ r, s.mapper.waitingRun = some r → r.isFill = true
  notices : s.mapper.notices = []

/-- The mapper can act on this notice: it is the oldest, `rest` are the later ones, and no line is in hand (R83). -/
structure NoticeDue (s : State) (n : Notice) (rest : List Notice) : Prop where
  line : s.mapper.lineInHand = none
  oldest : s.mapper.notices = n :: rest

/-- The command that acts on a notice (R83). -/
def noticeCommand : Notice → Instr
  | .posture => .postureNotice
  | .mapSet => .mapSetNotice
  | .guardState _ => .guardStateNotice
  | .drop _ => .dropNotice

/-- The four commands that act on a notice, and the three that take an intake item (R83). -/
def noticeCommands : List Instr := [.postureNotice, .mapSetNotice, .guardStateNotice, .dropNotice]

/-- See `noticeCommands`. -/
def itemCommands : List Instr := [.frameSetUp, .lineItem, .frameEnd]

/-- The command that takes an intake item (R83). -/
def itemCommand : IntakeItem → Instr
  | .frameStart _ _ _ => .frameSetUp
  | .line _ _ => .lineItem
  | .frameEnd => .frameEnd

/-! ### What a side bus transaction sends and leaves (R54, R55, R57, R59) -/

/-- What the FL420 sends between the start condition and the stop condition: orders 2 to 7 of R54 and orders 2 to 8 of
R55. -/
def requestSymbols : Request → List BusSymbol
  | .sensor device register =>
    [.address device false, .byte register, .repeatedStart, .address device true, .acknowledge, .notAcknowledge]
  | .nvm address count =>
    [.address 0x50 false, .byte (BitVec.ofNat 8 (address / 256)), .byte (BitVec.ofNat 8 address), .repeatedStart,
      .address 0x50 true] ++ List.replicate (count - 1) .acknowledge ++ [.notAcknowledge]

/-- How many of those symbols have been sent when an acknowledge from the device is expected: orders 2, 3 and 5 of R54,
orders 2, 3, 4 and 6 of R55 (R59). -/
def acknowledgesExpected : Request → List Nat
  | .sensor _ _ => [1, 2, 4]
  | .nvm _ _ => [1, 2, 3, 5]

/-- How many of those symbols arbitration can be lost on: those before the data bytes (R57). -/
def contestedSymbols : Request → Nat
  | .sensor _ _ => 4
  | .nvm _ _ => 5

/-- The FL420 has sent these symbols on the side bus. -/
def sent (s : State) (symbols : List BusSymbol) : State :=
  { s with outside := { s.outside with sideBus := s.outside.sideBus ++ symbols } }

/-- The side bus master after the end of a transaction: both lines released, a waiting request in the slot, the timers
at 0, and the bytes received, the bus state and the levels of the lines as given (R50, R52; log 17). -/
def handedOn (b : SideBus) (received : List Byte) (after : BusState) (high : Bool) : SideBus :=
  { linesReleased := true, linesHigh := high, state := after, idleTimer := b.idleTimer
    slot := match b.waitingRequest with
      | none => .empty
      | some r => .waiting r
    waitingRequest := none, totalTimer := 0, stretchTimer := 0, received := received }

/-- A completed read, before its outcome is handed to the requester: all has been sent, with a stop condition unless
arbitration was lost at the final not-acknowledge bit (R54, R55, R58). -/
def readDone (s : State) (r : Request) (received : List Byte) (lateLoss : Bool) : State :=
  if lateLoss = true then { sent s (requestSymbols r) with bus := handedOn s.bus received .busy false }
  else { sent s (requestSymbols r ++ [.stop]) with bus := handedOn s.bus received .free true }

/-- An attempt broken off in an abort, before the failure is handed to the requester: what had been sent, and what the
abort leaves on the lines (R59 to R61). How far it had got is a free value (log 20). -/
def brokenOff (s : State) (symbols : List BusSymbol) (after : BusState) (high : Bool) : State :=
  { sent s symbols with bus := handedOn s.bus [] after high, freeIndex := s.freeIndex + 1 }

/-! ### What the check of a layout finds (R15, R16, R17) -/

/-- The first test that an entry fails, in the order of R15. -/
def EntryFails (modes : PerZone ZoneMode) (e : Entry) : EntryFault → Prop :=
  let outside := 1800 < e.dst.col + e.dst.width ∨ 2400 < e.dst.row + e.dst.height
    ∨ ∃ srcCol srcRow mirror, e.body = .copy srcCol srcRow mirror
      ∧ (1800 < srcCol + e.dst.width ∨ 2400 < srcRow + e.dst.height)
  let odd := e.dst.col % 2 = 1 ∨ e.dst.width % 2 = 1
  fun
  | .bounds => outside
  | .align => ¬ outside ∧ odd
  | .crossZone => ¬ outside ∧ ¬ odd ∧ ∀ z, ¬ LiesIn e.dst z
  | .zoneMode => ¬ outside ∧ ¬ odd ∧ ∃ z, LiesIn e.dst z ∧ modes.get z ≠ .live

/-- Every entry passes the four tests of R15. -/
def EntriesPass (l : Layout) : Prop := ∀ e ∈ l.entries, ∀ why, ¬ EntryFails l.modes e why

/-- The entries at two indexes share a pixel (R16). -/
def EntriesMeet (l : Layout) (i j : Nat) : Prop :=
  ∃ a b, l.entries[i]? = some a ∧ l.entries[j]? = some b ∧ ∃ col row, Covers a.dst col row ∧ Covers b.dst col row

/-- A LIVE zone is short: the areas of the entries that lie inside it do not sum to its area (R17). -/
def ZoneShort (l : Layout) (z : Zone) : Prop :=
  l.modes.get z = .live
    ∧ ((l.entries.filter fun e => LiesIn e.dst z).map fun e => e.dst.width * e.dst.height).sum ≠ z.width * 2400

/-! ### The references of a run that ends (R67, R114, R130) -/

/-- A line slot after one reference to it has been released: it becomes free when the mapper hold is released and no
reference is left (R67). -/
def lineReleased : Option LineSlot → Option LineSlot
  | none => none
  | some l => if l.hold = false ∧ l.refs ≤ 1 then none else some { l with refs := l.refs - 1 }

/-- The references of a run are released: its line slot's and its snapshot's go down by one, every other stays, and
nothing else of the intake and of the gain unit changes (R67, R114, R130). -/
structure ReferencesReleased (s t : State) (r : Run) : Prop where
  line : ∀ n : Fin 32, t.intake.lines[n] =
    if r.source.lineSlot? = some n then lineReleased s.intake.lines[n] else s.intake.lines[n]
  snapshot : ∀ n : Fin 2, t.gain.buffers[n] =
    if r.source.snapshot? = some n then { s.gain.buffers[n] with refs := s.gain.buffers[n].refs - 1 }
    else s.gain.buffers[n]
  intake : t.intake = { s.intake with lines := t.intake.lines }
  gain : t.gain = { s.gain with buffers := t.gain.buffers }

/-! ### Good states -/

/-- The runs and fill items anywhere between the layouts and the bus lie in their zones (R89, R94, R95, R120). -/
structure RunsLaw (s : State) : Prop where
  layouts : LayoutsLaw s
  held : ∀ r ∈ heldRuns s.engine, RunLaw r
  waiting : ∀ r, s.mapper.waitingRun = some r → RunLaw r
  fills : ∀ item ∈ s.mapper.fillList, FillLaw item
  cursor : ∀ c, s.mapper.cursor = some c →
    ∃ item, s.mapper.fillList[c.item]? = some item ∧ item.row ≤ c.row ∧ c.row < item.row + item.height

end Sys2Proof.Safety
end

