-- ==== Sys2Proof/Certificates/Slice0/Obligations.lean ====
section
/-! DEFINITION. The statements for the provers. Each docstring names the rule of spec/ it formalises, and any choice of
the model that a clause rests on, by its log entry. -/

open Sys2Proof Sys2Proof.Machine Sys2Proof.Safety

/-! ### Steps, packets and resets -/

/-- For every command c: a step with c at the front of the queue is exec of c with the queue's rest. -/
def Obligations.StepTakesFrontCommand : Prop :=
  ∀ (c : Instr) (rest : List Instr) (s : State),
    step { s with pending := c :: rest } = exec c { s with pending := rest }

/-- On an empty queue a step answers a next state in which the clock-driven counters have moved, a line that was low
may be high, and the HOLD or REJECT line spoken of may be another driver's; nothing else (the model's choice, log 1,
log 26 and log 29; the amounts are free values). The sample, idle and total timers, the PWM counters and the beats
since the last close do not go down, and owed beats and a pulse do not go up; no counter comes from below onto its
limit (log 9). The stretch timer and the hold count may go down as well, since R56 and R127 return them to 0: each
takes some value below its limit (log 9, log 19). The idle timer moves only while the bus is BUSY and both lines are
high, the total timer while a request is in the slot, the stretch timer in an ACTIVE transaction; a phase stays, with
its owed beats going down to at least 1; the last close keeps its driver and turnaround. -/
def Obligations.IdleStepMovesClocksAlone : Prop :=
  ∀ s : State, s.pending = [] →
    let rises := fun (limit old new : Nat) => old ≤ new ∧ new ≤ max old (limit - 1)
    let runsDown := fun (old new : Nat) => new ≤ old ∧ min old 1 ≤ new
    ∃ t : State, step s = .next t
      ∧ t.store = s.store ∧ t.intake = s.intake ∧ t.mapper = s.mapper ∧ t.gain = s.gain ∧ t.guard = s.guard
      ∧ t.control = s.control ∧ t.loader = s.loader ∧ t.pending = [] ∧ t.freeIndex = s.freeIndex + 1
      ∧ t.outside = { s.outside with lineFrom := t.outside.lineFrom }
      ∧ t.posture = { s.posture with sampleTimer := t.posture.sampleTimer }
      ∧ rises (match s.posture.config.rate with
          | 0 => 5000
          | 1 => 10000
          | 2 => 20000
          | _ => 40000) s.posture.sampleTimer t.posture.sampleTimer
      ∧ t.bus = { s.bus with
          linesHigh := t.bus.linesHigh, idleTimer := t.bus.idleTimer, totalTimer := t.bus.totalTimer
          stretchTimer := t.bus.stretchTimer }
      ∧ (s.bus.linesHigh = true ∨ s.bus.linesReleased = false → t.bus.linesHigh = s.bus.linesHigh)
      ∧ (if s.bus.state = .busy ∧ s.bus.linesHigh = true then rises 2000 s.bus.idleTimer t.bus.idleTimer
          else t.bus.idleTimer = s.bus.idleTimer)
      ∧ (if s.bus.slot = .empty then t.bus.totalTimer = s.bus.totalTimer
          else rises 250000 s.bus.totalTimer t.bus.totalTimer)
      ∧ (match s.bus.slot with
          | .active _ => t.bus.stretchTimer < 25000
          | .empty | .waiting _ => t.bus.stretchTimer = s.bus.stretchTimer)
      ∧ t.engine = { s.engine with
          lastClose := t.engine.lastClose, phase := t.engine.phase, holdCount := t.engine.holdCount }
      ∧ (match s.engine.phase with
          | .turnaround owed => ∃ left, t.engine.phase = .turnaround left ∧ runsDown owed left
          | .retry owed => ∃ left, t.engine.phase = .retry left ∧ runsDown owed left
          | phase => t.engine.phase = phase)
      ∧ (match s.engine.lastClose with
          | none => t.engine.lastClose = none
          | some c => ∃ beats, t.engine.lastClose = some ⟨c.driver, c.turnaround, beats⟩ ∧ c.beatsSince ≤ beats)
      ∧ (if s.engine.phase = .window ∨ s.engine.phase = .data then t.engine.holdCount < 2049
          else t.engine.holdCount = s.engine.holdCount)
      ∧ t.emission = { s.emission with zones := t.emission.zones }
      ∧ (∀ z : Zone, t.emission.zones.get z =
            { s.emission.zones.get z with counter := (t.emission.zones.get z).counter }
          ∧ rises s.emission.period (s.emission.zones.get z).counter (t.emission.zones.get z).counter
          ∧ ∀ z' : Zone, (s.emission.zones.get z).counter = (s.emission.zones.get z').counter →
              (t.emission.zones.get z).counter = (t.emission.zones.get z').counter)
      ∧ t.reports = { s.reports with pulse := t.reports.pulse }
      ∧ (match s.reports.pulse with
          | none => t.reports.pulse = none
          | some left => ∃ left', t.reports.pulse = some left' ∧ runsDown left left')

/-- The reset state holds the values of the reset tables of R4, R26, R49, R63, R80, R106, R119, R139, R154, R162,
R171, R179 and R185; the side bus slot holds the loader's first read, made in the same event (R63, R180; log 5). The
values that log 6, log 7, log 26 and log 29 choose are not in it. -/
def Obligations.ResetTables : Prop :=
  let r := State.reset
  (r.store.slots[0] = ⟨.ready, ⟨⟨.live, .live, .live⟩,
      [⟨⟨0, 0, 864, 2400⟩, .copy 0 0 false⟩, ⟨⟨864, 0, 72, 2400⟩, .copy 864 0 false⟩,
        ⟨⟨936, 0, 864, 2400⟩, .copy 936 0 false⟩]⟩⟩
    ∧ (∀ i : Fin 8, i ≠ 0 → r.store.slots[i] = ⟨.empty, ⟨⟨.live, .live, .live⟩, []⟩⟩)
    ∧ r.store.active = ⟨0, 0, 0, 0⟩ ∧ r.store.pendingMap = ⟨0, 0, 0, 0⟩)
  ∧ r.posture =
      { config := ⟨1, 2, ⟨256, 352, 1696, 1824⟩, 4, 0x36, 0x10⟩, sampleTimer := 0, offset := 0, y := none, f := 0
        w := 0, posture := .unset, facing := .front, candidate := none, dwellCount := 0, missCount := 0
        sensorLost := false, outstanding := false }
  ∧ r.bus =
      { linesReleased := true, linesHigh := r.bus.linesHigh, state := .busy, idleTimer := 0
        slot := .waiting (.nvm 0 1), waitingRequest := none, totalTimer := 0, stretchTimer := 0, received := [] }
  ∧ (r.intake.state = .idle ∧ r.intake.header = ⟨0, 0, 0⟩ ∧ r.intake.lastFrame = 0 ∧ r.intake.lastRow = none
    ∧ r.intake.arrived = 0 ∧ r.intake.accepted = 0 ∧ r.intake.dropped = 0 ∧ r.intake.firstDropped = none
    ∧ r.intake.anomalies = 0 ∧ r.intake.strayReported = false ∧ r.intake.queue = [] ∧ r.intake.reserved = false
    ∧ ∀ n : Fin 32, r.intake.lines[n] = none)
  ∧ (r.mapper.copySlot = 0 ∧ r.mapper.copy = r.store.slots[0].layout ∧ r.mapper.postureInEffect = .unset
    ∧ r.mapper.frameOpen = false ∧ r.mapper.frameInHand = none ∧ r.mapper.lastFrame = 0
    ∧ r.mapper.lineInHand = none ∧ r.mapper.waitingRun = none ∧ r.mapper.cursor = none
    ∧ r.mapper.repaintPending = true ∧ r.mapper.zoneRequests = ⟨false, false, false⟩
    ∧ r.mapper.changeNotice = false ∧ r.mapper.guardHeld = .blank)
  ∧ ((∀ c : Fin 72, r.gain.flat[c] = 1024 ∧ r.gain.fold[c] = 1024)
    ∧ (∀ (n : Fin 2) (c : Fin 72), r.gain.buffers[n].gains[c] = 1024) ∧ (∀ n : Fin 2, r.gain.buffers[n].refs = 0)
    ∧ r.gain.foldPt = 256 ∧ r.gain.flatPt = 1920 ∧ r.gain.current = 1)
  ∧ (r.engine.queues = ⟨[], [], []⟩ ∧ r.engine.pointer = .back ∧ r.engine.phase = .idle
    ∧ r.engine.inTransfer = none ∧ r.engine.lastClose = none ∧ r.engine.holdCount = 0
    ∧ r.engine.profiles = ⟨⟨3, 3, 3⟩, ⟨3, 3, 3⟩, ⟨3, 3, 3⟩⟩ ∧ r.engine.faultFlags = ⟨false, false, false⟩)
  ∧ (r.emission.zones = ⟨⟨0, 0, 0, 0, .live⟩, ⟨0, 0, 0, 0, .live⟩, ⟨0, 0, 0, 0, .live⟩⟩
    ∧ r.emission.period = 2048 ∧ r.emission.pendingPeriod = none ∧ r.emission.fadeStep = 16
    ∧ r.emission.latch = false)
  ∧ r.guard = { state := .blank, timer := none, holdCode := 8, blankCode := 31, tick := 0 }
  ∧ r.control = { queue := [], overrun := false }
  ∧ r.reports = { records := [], lostPending := false, attnMask := 0x7E, attnMode := .level, pulse := none }
  ∧ (r.loader.running = true ∧ r.loader.cursor = 0 ∧ r.loader.sectionStart = 0 ∧ r.loader.applied = 0
    ∧ r.loader.failed = 0 ∧ r.loader.failureNoted = false ∧ r.loader.lastOutcome = .none)

/-- RESET and SOFT_RESET give every block its reset values from every state (R80, R169). With ESTOP inactive nothing is
reported; with ESTOP active the latch is set at once and a FAULT record with code ESTOP is the one record held (R149,
R154). The pins keep their levels (log 6), the strap sets the address limit (R180), and what has left the part is not
undone: a DATA phase cut short has sent some of its run's pairs, fewer than all (log 12, log 13, log 19), and a side bus
transaction cut short some of its sequence, with no stop condition (R51, log 14, log 20); how many are free values. The
slot holds the loader's first read, where R63's table says EMPTY (log 5); the fill list, the notices and the profile in
use are as log 7 chooses, and the lines not seen high as log 26 does. SOFT_RESET first sends its RESP, and discards the
packets behind it (R169). That carrying the packet out and sending its RESP are one step is the model's choice (log
3). -/
def Obligations.ResetsGiveResetValues : Prop :=
  (∀ s : State, ∃ t : State, exec .reset s = .next t
    ∧ t.store = State.reset.store ∧ t.posture = State.reset.posture ∧ t.bus = State.reset.bus
    ∧ t.intake = State.reset.intake ∧ t.mapper = State.reset.mapper ∧ t.gain = State.reset.gain
    ∧ t.engine = State.reset.engine ∧ t.guard = State.reset.guard ∧ t.control = State.reset.control
    ∧ t.loader = { State.reset.loader with limit := if s.outside.nvszHigh = true then 65535 else 8191 }
    ∧ t.pending = s.pending
    ∧ t.outside = { s.outside with panelBus := t.outside.panelBus, sideBus := t.outside.sideBus }
    ∧ (∀ r : Run, s.engine.phase = .data → s.engine.inTransfer = some r → 2 ≤ r.count →
      ∃ pixels : List Pixel, (∃ pairs < r.count / 2, pixels.length = 2 * pairs)
        ∧ (∀ i < pixels.length, pixels[i]? = some (s.runPixel r i))
        ∧ t.outside.panelBus = s.outside.panelBus ++ [.pixels r.driver r.row r.firstCol pixels])
    ∧ (s.engine.phase ≠ .data ∨ s.engine.inTransfer = none → t.outside.panelBus = s.outside.panelBus)
    ∧ (∀ r : Request, s.bus.slot = .active r → ∃ n ≤ (requestSymbols r).length,
      t.outside.sideBus = s.outside.sideBus ++ (requestSymbols r).take n)
    ∧ ((∀ r : Request, s.bus.slot ≠ .active r) → t.outside.sideBus = s.outside.sideBus)
    ∧ (s.engine.phase ≠ .data → (∀ r : Request, s.bus.slot ≠ .active r) → t.freeIndex = s.freeIndex)
    ∧ (s.outside.estop = false → t.emission = State.reset.emission ∧ t.reports = State.reset.reports)
    ∧ (s.outside.estop = true → t.emission = { State.reset.emission with latch := true }
        ∧ t.reports = { State.reset.reports with
            records := [⟨.fault .estop .front 0 0, false, 0⟩] }))
  ∧ (∀ (s : State) (p : Packet) (rest : List Packet), Asks s p rest 0x71 [] → s.loader.running = false →
      ∃ t : State, exec .softReset s = .next t ∧ exec .reset (answered s p rest .ok []) = .next t
        ∧ t.control.queue = []
        ∧ t.outside.returnLane = s.outside.returnLane ++ [⟨p.tag, s.control.overrun, .ok, []⟩])

/-- A CTRL packet is placed on the command queue, unread, or discarded with OVERRUN set when the queue holds 8 or more
(R163, R164); it changes no state of the intake and nothing else (R64). A packet of another kind changes no state
(R64). -/
def Obligations.PacketArrivals : Prop :=
  (∀ (s : State) (first code count : Byte) (operands : List Byte), s.control.queue.length < 8 →
    exec (.ctrl first code count operands) s =
      .next { s with control :=
        ⟨s.control.queue ++ [⟨first, code, count, operands⟩], s.control.overrun⟩ })
  ∧ (∀ (s : State) (first code count : Byte) (operands : List Byte), 8 ≤ s.control.queue.length →
    exec (.ctrl first code count operands) s = .next { s with control := ⟨s.control.queue, true⟩ })
  ∧ (∀ s : State, exec .otherPacket s = .next s)

/-- The first three tests of every packet (R165, R167): a code that the command summary does not list is answered
UNKNOWN; a byte count that does not fit is answered LENGTH, whether or not the loader runs; a command that is not
exempt is answered BUSY while the loader is RUNNING. Each is one RESP with no data, and no other state changes. That
carrying the packet out and sending its RESP are one step is the model's choice (log 3). -/
def Obligations.CommandTests : Prop :=
  (∀ (s : State) (p : Packet) (rest : List Packet), s.control.queue = p :: rest →
    (∀ row ∈ commandSummary, row.code ≠ p.code) →
      exec .unknownCommand s = .next (answered s p rest .unknown []))
  ∧ (∀ row ∈ commandSummary, ∀ (s : State) (p : Packet) (rest : List Packet),
    s.control.queue = p :: rest → p.code = row.code →
      (¬ (p.count.toNat = p.operands.length ∧ row.fits p.operands = true) →
        exec row.command s = .next (answered s p rest .length []))
      ∧ (p.count.toNat = p.operands.length → row.fits p.operands = true → s.loader.running = true →
        row.exempt = false → exec row.command s = .next (answered s p rest .busy [])))

/-- STATUS_READ returns the 19 bytes of R168 and 10.5 from the owning blocks as they stand, also while the loader is
RUNNING, and changes no state but what its RESP changes. Before the first loader run has ended the outcome is NONE.
That the unused bits of the driver fault flags byte read 0, and that the sensor-lost byte is 0 or 1, is the model's
choice (log 30). That carrying the packet out and sending its RESP are one step is the model's choice (log 3). -/
def Obligations.StatusReadPicture : Prop :=
  (∀ (s : State) (p : Packet) (rest : List Packet), Asks s p rest 0x70 [] →
    exec .statusRead s = .next (answered s p rest .ok
      [BitVec.ofNat 8 s.posture.posture.code, BitVec.ofNat 8 s.posture.facing.code,
        BitVec.ofNat 8 (s.posture.f / 256), BitVec.ofNat 8 s.posture.f,
        BitVec.ofNat 8 (s.posture.w / 256), BitVec.ofNat 8 s.posture.w,
        if s.posture.sensorLost = true then 1 else 0, BitVec.ofNat 8 s.guard.state.code,
        BitVec.ofNat 8 s.mapper.copySlot.val, if s.loader.running = true then 1 else 0,
        BitVec.ofNat 8 s.loader.lastOutcome.code,
        BitVec.ofNat 8 ((if s.engine.faultFlags.front = true then 1 else 0)
          + (if s.engine.faultFlags.spine = true then 2 else 0)
          + (if s.engine.faultFlags.back = true then 4 else 0)),
        if s.emission.latch = true then 1 else 0,
        BitVec.ofNat 8 (s.reports.occupancy / 256), BitVec.ofNat 8 s.reports.occupancy,
        BitVec.ofNat 8 (s.guard.tick.toNat / 16777216), BitVec.ofNat 8 (s.guard.tick.toNat / 65536),
        BitVec.ofNat 8 (s.guard.tick.toNat / 256), BitVec.ofNat 8 s.guard.tick.toNat]))
  ∧ State.reset.loader.lastOutcome = .none

/-- FAULT_CLEAR clears the three driver fault flags, and the estop latch unless ESTOP is active; its RESP carries the
latch as it stands after and the flags clear; nothing else changes, the sensor-lost flag included (R151, R170). That
the unused bits of the driver fault flags byte read 0 is the model's choice (log 30). That carrying the packet out and
sending its RESP are one step is the model's choice (log 3). -/
def Obligations.FaultClearEffect : Prop :=
  ∀ (s : State) (p : Packet) (rest : List Packet), Asks s p rest 0x72 [] → s.loader.running = false →
    (s.emission.latch = true → s.outside.estop = true →
      exec .faultClear s = .next (answered
        { s with engine := { s.engine with faultFlags := ⟨false, false, false⟩ } } p rest .ok [1, 0]))
    ∧ (s.emission.latch = false ∨ s.outside.estop = false →
      exec .faultClear s = .next (answered
        { s with
          engine := { s.engine with faultFlags := ⟨false, false, false⟩ }
          emission := { s.emission with latch := false } } p rest .ok [0, 0]))

/-! ### Layouts (chapter 1) -/

/-- The admission of an edit (R8, tests 1 to 4) for all four edit commands: a slot number above 7 is RANGE, slot 0 is
STATE, a slot named in a map is INUSE, an EMPTY slot is STATE but for SLOT_CLEAR. The first test that fails decides,
and a refused edit changes nothing but what its RESP changes. That carrying the packet out and sending its RESP are
one step is the model's choice (log 3). -/
def Obligations.EditAdmission : Prop :=
  ∀ row ∈ editCommands, ∀ (s : State) (p : Packet) (rest : List Packet) (n : Byte) (more : List Byte),
    Asks s p rest row.2.1 (n :: more) → (n :: more).length = row.2.2.1 → s.loader.running = false →
      (8 ≤ n.toNat → exec row.1 s = .next (answered s p rest .range []))
      ∧ (n = 0 → exec row.1 s = .next (answered s p rest .state []))
      ∧ (∀ i : Fin 8, i.val = n.toNat → i ≠ 0 → s.store.inUse i = true →
          exec row.1 s = .next (answered s p rest .inUse []))
      ∧ (∀ i : Fin 8, i.val = n.toNat → i ≠ 0 → s.store.inUse i = false → s.store.slots[i].state = .empty →
          row.2.2.2 = true → exec row.1 s = .next (answered s p rest .state []))

/-- SLOT_CLEAR on an EMPTY, EDITING or READY slot that passes tests 1 to 3: an empty layout, all zones LIVE, EDITING;
the RESP carries the slot's state and entry count (R8, R9). That carrying the packet out and sending its RESP are one
step is the model's choice (log 3). -/
def Obligations.SlotClearEffect : Prop :=
  ∀ (s : State) (p : Packet) (rest : List Packet) (n : Byte) (i : Fin 8), Asks s p rest 0x01 [n] →
    s.loader.running = false → i.val = n.toNat → i ≠ 0 → s.store.inUse i = false →
      exec .slotClear s = .next (answered
        { s with store := { s.store with
            slots := s.store.slots.set i ⟨.editing, ⟨⟨.live, .live, .live⟩, []⟩⟩ } } p rest .ok [1, 0])

/-- SLOT_ZONES on a slot that passes tests 1 to 4: three values of LIVE, HOLD or DARK replace the zone modes and keep
the entry list, and the slot is EDITING; any other value is RANGE and no mode is changed (R8, R10). That carrying the
packet out and sending its RESP are one step is the model's choice (log 3). -/
def Obligations.SlotZonesEffect : Prop :=
  ∀ (s : State) (p : Packet) (rest : List Packet) (n f sp b : Byte) (i : Fin 8), Asks s p rest 0x02 [n, f, sp, b] →
    s.loader.running = false → i.val = n.toNat → i ≠ 0 → s.store.inUse i = false → s.store.slots[i].state ≠ .empty →
      (∀ modes : PerZone ZoneMode, modes.front.code = f.toNat → modes.spine.code = sp.toNat →
        modes.back.code = b.toNat →
        exec .slotZones s = .next (answered
          { s with store := { s.store with
              slots := s.store.slots.set i ⟨.editing, ⟨modes, s.store.slots[i].layout.entries⟩⟩ } }
          p rest .ok [1, BitVec.ofNat 8 s.store.slots[i].layout.entries.length]))
      ∧ (2 < f.toNat ∨ 2 < sp.toNat ∨ 2 < b.toNat → exec .slotZones s = .next (answered s p rest .range []))

/-- ENTRY_PUT on a slot that passes tests 1 to 4, with the 20 bytes of an entry whose fields lie in their ranges:
index below the count replaces, index equal to a count below 12 appends, any other index is RANGE; the other entries
keep their indexes and contents, and the slot is EDITING (R8, R11). The bytes are those that SLOT_READ returns for the
entry (10.5). That carrying the packet out and sending its RESP are one step is the model's choice (log 3). -/
def Obligations.EntryPutEffect : Prop :=
  ∀ (s : State) (p : Packet) (rest : List Packet) (n index : Byte) (e : Entry) (i : Fin 8),
    Asks s p rest 0x03 (n :: index :: e.bytes) → s.loader.running = false → i.val = n.toNat → i ≠ 0 →
    s.store.inUse i = false → s.store.slots[i].state ≠ .empty → e.inRange = true →
      let l := s.store.slots[i].layout
      (index.toNat < l.entries.length →
        exec .entryPut s = .next (answered
          { s with store := { s.store with
              slots := s.store.slots.set i ⟨.editing, ⟨l.modes, l.entries.set index.toNat e⟩⟩ } }
          p rest .ok [1, BitVec.ofNat 8 l.entries.length]))
      ∧ (index.toNat = l.entries.length → l.entries.length < 12 →
        exec .entryPut s = .next (answered
          { s with store := { s.store with
              slots := s.store.slots.set i ⟨.editing, ⟨l.modes, l.entries ++ [e]⟩⟩ } }
          p rest .ok [1, BitVec.ofNat 8 (l.entries.length + 1)]))
      ∧ (index.toNat = l.entries.length → 12 ≤ l.entries.length →
        exec .entryPut s = .next (answered s p rest .range []))
      ∧ (l.entries.length < index.toNat → exec .entryPut s = .next (answered s p rest .range []))

/-- The field tests of ENTRY_PUT on a slot that passes tests 1 to 4: each field alone outside its range is RANGE and
changes nothing, and the fields of the other kind are not tested (R12). That carrying the packet out and sending its
RESP are one step is the model's choice (log 3). -/
def Obligations.EntryPutFieldTests : Prop :=
  ∀ (s : State) (p : Packet) (rest : List Packet) (n index kind mirror : Byte)
    (c1 c0 r1 r0 w1 w0 h1 h0 x1 x0 y1 y0 red1 red0 green1 green0 blue1 blue0 : Byte) (i : Fin 8),
    Asks s p rest 0x03 [n, index, kind, c1, c0, r1, r0, w1, w0, h1, h0, x1, x0, y1, y0, mirror, red1, red0, green1,
      green0, blue1, blue0] → s.loader.running = false → i.val = n.toNat → i ≠ 0 →
    s.store.inUse i = false → s.store.slots[i].state ≠ .empty →
    index.toNat ≤ s.store.slots[i].layout.entries.length → index.toNat < 12 →
      let word := fun (hi lo : Byte) => hi.toNat * 256 + lo.toNat
      let inRange := kind.toNat ≤ 1 ∧ word c1 c0 ≤ 1799 ∧ word r1 r0 ≤ 2399 ∧ 2 ≤ word w1 w0 ∧ word w1 w0 ≤ 864
        ∧ 1 ≤ word h1 h0 ∧ word h1 h0 ≤ 2400
        ∧ (kind = 0 → word x1 x0 ≤ 1799 ∧ word y1 y0 ≤ 2399 ∧ mirror.toNat ≤ 1)
        ∧ (kind = 1 → word red1 red0 ≤ 1023 ∧ word green1 green0 ≤ 1023 ∧ word blue1 blue0 ≤ 1023)
      (¬ inRange → exec .entryPut s = .next (answered s p rest .range []))
      ∧ (inRange → ∃ t : State, exec .entryPut s = .next t
          ∧ t.store.slots[i].state = .editing
          ∧ (kind = 0 → t.store.slots[i].layout.entries[index.toNat]? =
              some ⟨⟨word c1 c0, word r1 r0, word w1 w0, word h1 h0⟩, .copy (word x1 x0) (word y1 y0) (mirror = 1)⟩)
          ∧ (kind = 1 → t.store.slots[i].layout.entries[index.toNat]? =
              some ⟨⟨word c1 c0, word r1 r0, word w1 w0, word h1 h0⟩,
                .fill ⟨BitVec.ofNat 10 (word red1 red0), BitVec.ofNat 10 (word green1 green0),
                  BitVec.ofNat 10 (word blue1 blue0)⟩⟩))

/-- ENTRY_DROP on a slot that passes tests 1 to 4: the last entry is removed, the count goes down by 1, the others are
unchanged and the slot is EDITING; on an empty list it is refused with RANGE (R13). That carrying the packet out and
sending its RESP are one step is the model's choice (log 3). -/
def Obligations.EntryDropEffect : Prop :=
  ∀ (s : State) (p : Packet) (rest : List Packet) (n : Byte) (i : Fin 8), Asks s p rest 0x04 [n] →
    s.loader.running = false → i.val = n.toNat → i ≠ 0 → s.store.inUse i = false → s.store.slots[i].state ≠ .empty →
      (∀ (kept : List Entry) (last : Entry), s.store.slots[i].layout.entries = kept ++ [last] →
        exec .entryDrop s = .next (answered
          { s with store := { s.store with
              slots := s.store.slots.set i ⟨.editing, ⟨s.store.slots[i].layout.modes, kept⟩⟩ } }
          p rest .ok [1, BitVec.ofNat 8 kept.length]))
      ∧ (s.store.slots[i].layout.entries = [] → exec .entryDrop s = .next (answered s p rest .range []))

/-- SLOT_CHECK by the slot's state: RANGE above 7, STATE on EMPTY, OK at once on READY, and on EDITING the check: OK
and READY when it passes, CHECK_FAILED with the reason and the index or zone when it fails, the slot and its record
unchanged (R14, R18). What the check finds is the statement `CheckPassesExactlyOnTheLaw`. That carrying the packet out
and sending its RESP are one step is the model's choice (log 3). -/
def Obligations.SlotCheckEffect : Prop :=
  ∀ (s : State) (p : Packet) (rest : List Packet) (n : Byte), Asks s p rest 0x05 [n] → s.loader.running = false →
    (8 ≤ n.toNat → exec .slotCheck s = .next (answered s p rest .range []))
    ∧ (∀ i : Fin 8, i.val = n.toNat →
      let l := s.store.slots[i].layout
      (s.store.slots[i].state = .empty → exec .slotCheck s = .next (answered s p rest .state []))
      ∧ (s.store.slots[i].state = .ready →
        exec .slotCheck s = .next (answered s p rest .ok [2, BitVec.ofNat 8 l.entries.length]))
      ∧ (s.store.slots[i].state = .editing → l.check = none →
        exec .slotCheck s = .next (answered
          { s with store := { s.store with slots := s.store.slots.set i ⟨.ready, l⟩ } }
          p rest .ok [2, BitVec.ofNat 8 l.entries.length]))
      ∧ (∀ failure, s.store.slots[i].state = .editing → l.check = some failure →
        exec .slotCheck s = .next (answered s p rest .checkFailed
          (match failure with
            | .entry .bounds j => [1, BitVec.ofNat 8 j]
            | .entry .align j => [2, BitVec.ofNat 8 j]
            | .entry .crossZone j => [3, BitVec.ofNat 8 j]
            | .entry .zoneMode j => [4, BitVec.ofNat 8 j]
            | .overlap j => [5, BitVec.ofNat 8 j]
            | .gap .front => [6, 0]
            | .gap .spine => [6, 1]
            | .gap .back => [6, 2]))))

/-- SLOT_READ: the slot's state, its modes and its count, then the smaller of n and 4 entries from the index on, going
on from index 0 after the last, none for a count of 0; RANGE for a slot above 7, an index above 11, or an index not
less than a count other than 0. It does not change the slot (R19, R20). That carrying the packet out and sending its
RESP are one step is the model's choice (log 3). -/
def Obligations.SlotReadEffect : Prop :=
  ∀ (s : State) (p : Packet) (rest : List Packet) (n index count : Byte), Asks s p rest 0x06 [n, index, count] →
    s.loader.running = false →
    (8 ≤ n.toNat ∨ 12 ≤ index.toNat → exec .slotRead s = .next (answered s p rest .range []))
    ∧ (∀ i : Fin 8, i.val = n.toNat → index.toNat ≤ 11 →
      let slot := s.store.slots[i]
      let head : List Byte := [BitVec.ofNat 8 slot.state.code, BitVec.ofNat 8 slot.layout.modes.front.code,
        BitVec.ofNat 8 slot.layout.modes.spine.code, BitVec.ofNat 8 slot.layout.modes.back.code,
        BitVec.ofNat 8 slot.layout.entries.length]
      (slot.layout.entries = [] → exec .slotRead s = .next (answered s p rest .ok head))
      ∧ (slot.layout.entries ≠ [] → slot.layout.entries.length ≤ index.toNat →
        exec .slotRead s = .next (answered s p rest .range []))
      ∧ (index.toNat < slot.layout.entries.length → ∃ read : List Entry,
        exec .slotRead s = .next (answered s p rest .ok (head ++ read.flatMap Entry.bytes))
        ∧ read.length = min count.toNat 4
        ∧ ∀ j < read.length, read[j]? = slot.layout.entries[(index.toNat + j) % slot.layout.entries.length]?))

/-- MAP_SET: RANGE for a posture code other than 1 to 4 or a slot above 7, STATE for a slot that is not READY, each
changing nothing; else the pending entry of that posture is written, the active map and the other entries stay, and
the mapper gets one MAP_SET notice (R22). That carrying the packet out and sending its RESP are one step is the
model's choice (log 3). How a notice waits is the model's choice (log 15). -/
def Obligations.MapSetEffect : Prop :=
  ∀ (s : State) (p : Packet) (rest : List Packet) (code n : Byte), Asks s p rest 0x07 [code, n] →
    s.loader.running = false →
    (code = 0 ∨ 4 < code.toNat ∨ 8 ≤ n.toNat → exec .mapSet s = .next (answered s p rest .range []))
    ∧ (∀ i : Fin 8, 1 ≤ code.toNat → code.toNat ≤ 4 → i.val = n.toNat → s.store.slots[i].state ≠ .ready →
      exec .mapSet s = .next (answered s p rest .state []))
    ∧ (∀ (i : Fin 8) (posture : Posture), posture.code = code.toNat → posture ≠ .unset → i.val = n.toNat →
      s.store.slots[i].state = .ready →
      exec .mapSet s = .next (answered
        { s with
          store := { s.store with pendingMap :=
            { opened := if posture = .opened then i else s.store.pendingMap.opened
              bent := if posture = .bent then i else s.store.pendingMap.bent
              closedFront := if posture = .closedFront then i else s.store.pendingMap.closedFront
              closedBack := if posture = .closedBack then i else s.store.pendingMap.closedBack } }
          mapper := { s.mapper with
            notices := s.mapper.notices ++ [.mapSet] } } p rest .ok []))

/-- What the check finds in a layout whose entries lie in their ranges (R15 to R18). It fails with an entry's reason
and index exactly when that entry is the first in list order that fails a test of R15, and the reason is the first
test it fails; with OVERLAP and an index exactly when every entry passes and the index is the lowest that shares a
pixel with a later entry (R16); with GAP and a zone exactly when, besides, no two entries share a pixel and the zone
is the first LIVE one whose entries' areas do not sum to its area (R17). It finds nothing if and only if every entry's
source rectangle lies in the source space, every destination starts at an even column and has an even width, and the
layout law holds. -/
def Obligations.CheckPassesExactlyOnTheLaw : Prop :=
  ∀ l : Layout, (∀ e ∈ l.entries, e.inRange = true) →
    (∀ (why : EntryFault) (i : Nat), l.check = some (.entry why i) ↔
      ∃ e, l.entries[i]? = some e ∧ EntryFails l.modes e why
        ∧ ∀ j < i, ∀ e', l.entries[j]? = some e' → ∀ why', ¬ EntryFails l.modes e' why')
    ∧ (∀ i : Nat, l.check = some (.overlap i) ↔
      EntriesPass l ∧ (∃ j, i < j ∧ EntriesMeet l i j) ∧ ∀ i' < i, ∀ j, i' < j → ¬ EntriesMeet l i' j)
    ∧ (∀ z : Zone, l.check = some (.gap z) ↔
      EntriesPass l ∧ (∀ i j, i < j → ¬ EntriesMeet l i j) ∧ ZoneShort l z
        ∧ ∀ z' : Zone, z'.code < z.code → ¬ ZoneShort l z')
    ∧ (l.check = none ↔ LayoutLaw l ∧ Aligned l
      ∧ ∀ e ∈ l.entries, ∀ srcCol srcRow mirror, e.body = .copy srcCol srcRow mirror →
          srcCol + e.dst.width ≤ 1800 ∧ srcRow + e.dst.height ≤ 2400)

/-- What the check proves by areas: in a layout that obeys the layout law, every panel pixel of a LIVE zone is covered
by exactly one entry, and no entry covers a pixel of a HOLD or DARK zone (R18). -/
def Obligations.LivePixelsCoveredExactlyOnce : Prop :=
  ∀ l : Layout, LayoutLaw l → ∀ (z : Zone) (col row : Nat), InZone z col row →
    (l.modes.get z = .live → ∃! i : Fin l.entries.length, Covers l.entries[i].dst col row)
    ∧ (l.modes.get z ≠ .live → ∀ e ∈ l.entries, ¬ Covers e.dst col row)

/-- Every step keeps the layouts' law: slot 0 is READY with the identity layout, every READY slot obeys the layout
law, every slot named in a map is READY, and the mapper's frame copy obeys the layout law (R4, R18, R24, R84). -/
def Obligations.EveryStepKeepsLayouts : Prop :=
  ∀ s t : State, LayoutsLaw s → step s = .next t → LayoutsLaw t

/-! ### Posture sensing (chapter 2) -/

/-- A sample timer expiry restarts the timer; it makes one request, with the sensor address and register as they
stand, exactly when the loader is not RUNNING and no read is outstanding, and otherwise changes no other state (R27).
The request enters an EMPTY slot WAITING with the total timer at 0, or waits behind the one in the slot (R52). -/
def Obligations.SampleTimerExpiry : Prop :=
  ∀ s : State,
    (s.loader.running = true ∨ s.posture.outstanding = true →
      exec .sampleTimerExpiry s = .next { s with posture := { s.posture with sampleTimer := 0 } })
    ∧ (s.loader.running = false → s.posture.outstanding = false → s.bus.slot = .empty →
      exec .sampleTimerExpiry s = .next
        { s with
          posture := { s.posture with sampleTimer := 0, outstanding := true }
          bus := { s.bus with
            slot := .waiting (.sensor s.posture.config.sensorAddress s.posture.config.sensorRegister)
            totalTimer := 0 } })
    ∧ (s.loader.running = false → s.posture.outstanding = false → s.bus.slot ≠ .empty →
      exec .sampleTimerExpiry s = .next
        { s with
          posture := { s.posture with sampleTimer := 0, outstanding := true }
          bus := { s.bus with
            waitingRequest := some (.sensor s.posture.config.sensorAddress s.posture.config.sensorRegister) } })

/-- A completed sensor read is a good sample: raw code, corrected code, opening angle, filter, filtered angle and
blend weight are as R28, R30, R31, R32, R33, R43 and R44 compute them, the sensor-lost flag is clear, the miss count 0
and no read outstanding (R29). The FL420 has sent orders 2 to 8 of R54, the slot is handed on and the bus is FREE;
where arbitration was lost at the final bit there is no stop condition and the bus is BUSY (R54, R58). Of the rest
only the posture with its dwell, the report queue and the notices may change. That the timers read 0 in an EMPTY slot
and the received bytes are kept until the next attempt is the model's choice (log 17). -/
def Obligations.GoodSampleAngles : Prop :=
  ∀ (s : State) (address : BitVec 7) (register first second : Byte) (lateLoss : Bool),
    s.bus.slot = .active (.sensor address register) →
      let raw : Nat := first.toNat * 16 + second.toNat / 16
      let c : Nat := (((raw : Int) + s.posture.offset) % 4096).toNat
      let a : Nat := if c ≤ 2048 then c else if c ≤ 3071 then 2048 else 0
      let y : Nat := match s.posture.sensorLost, s.posture.y with
        | false, some old => ((old : Int) + (((16 * a : Nat) : Int) - (old : Int)) / 2 ^ s.posture.config.k).toNat
        | _, _ => 16 * a
      let f : Nat := (y + 8) / 16
      let span : Nat := s.gain.flatPt - s.gain.foldPt
      let w : Nat := if f ≤ s.gain.foldPt then 256 else if s.gain.flatPt ≤ f then 0
        else ((s.gain.flatPt - f) * 256 + span / 2) / span
      let done := readDone s (.sensor address register) [first, second] lateLoss
      ∃ t : State, exec (.sensorReadComplete first second lateLoss) s = .next t
        ∧ t.posture = { s.posture with
            y := some y, f := f, w := w, missCount := 0, sensorLost := false, outstanding := false
            posture := t.posture.posture, candidate := t.posture.candidate, dwellCount := t.posture.dwellCount }
        ∧ t.bus = done.bus ∧ t.outside = done.outside
        ∧ t.store = s.store ∧ t.intake = s.intake ∧ t.gain = s.gain ∧ t.engine = s.engine
        ∧ t.emission = s.emission ∧ t.guard = s.guard ∧ t.control = s.control ∧ t.loader = s.loader
        ∧ t.freeIndex = s.freeIndex ∧ t.pending = s.pending
        ∧ t.mapper = { s.mapper with notices := t.mapper.notices }

/-- What a good sample makes of its class (R29 stages 6 and 8, R34 to R38, R43): from UNSET the class is adopted at
once with the INITIAL flag; the class of the current posture clears the candidate; another class counts, from 1 when
it is new, and is adopted when the count reaches D. An adoption clears the candidate and the count, offers a POSTURE
record with the f of the sample and sends the mapper one notice; SENSOR_BACK, when the sensor was lost, is offered
before it, and that its driver and row read 0 is the model's choice (log 31). How a notice waits is the model's choice
(log 15). -/
def Obligations.GoodSampleAdoption : Prop :=
  ∀ (s t : State) (address : BitVec 7) (register first second : Byte) (lateLoss : Bool),
    s.bus.slot = .active (.sensor address register) →
    exec (.sensorReadComplete first second lateLoss) s = .next t →
      let f : Nat := t.posture.f
      let th : Thresholds := s.posture.config.thresholds
      let old : Posture := s.posture.posture
      let cls : PostureClass := match old with
        | .closedFront | .closedBack =>
          if f < th.closedExit then .closed else if th.openEnter ≤ f then .opened else .bent
        | .opened => if f ≤ th.closedEnter then .closed else if th.openExit < f then .opened else .bent
        | .bent | .unset => if f ≤ th.closedEnter then .closed else if th.openEnter ≤ f then .opened else .bent
      let new : Posture := match cls, s.posture.facing with
        | .opened, _ => .opened
        | .bent, _ => .bent
        | .closed, .front => .closedFront
        | .closed, .back => .closedBack
      let same : Bool := match old, cls with
        | .opened, .opened | .bent, .bent | .closedFront, .closed | .closedBack, .closed => true
        | _, _ => false
      let count : Nat := if s.posture.candidate = some cls then s.posture.dwellCount + 1 else 1
      let back : Reports := if s.posture.sensorLost = true then
          s.reports.offer s.guard.tick (.fault .sensorBack .front 0 f) else s.reports
      let adopted : Bool → Prop := fun initial =>
        t.posture.posture = new ∧ t.posture.candidate = none ∧ t.posture.dwellCount = 0
          ∧ t.reports = back.offer s.guard.tick (.posture new old f initial false)
          ∧ t.mapper.notices = s.mapper.notices ++ [.posture]
      let held : Option PostureClass → Nat → Prop := fun candidate n =>
        t.posture.posture = old ∧ t.posture.candidate = candidate ∧ t.posture.dwellCount = n
          ∧ t.reports = back ∧ t.mapper.notices = s.mapper.notices
      (old = .unset → adopted true)
      ∧ (same = true → held none 0)
      ∧ (old ≠ .unset → same = false → s.posture.config.dwell ≤ count → adopted false)
      ∧ (old ≠ .unset → same = false → count < s.posture.config.dwell → held (some cls) count)

/-- FACE_SET: a value other than FRONT or BACK is RANGE and the facing stays; else the facing is stored, and in the
closed posture of the other facing the posture switches at once, an adoption with the FACE flag; in any other case
nothing more happens (R38, R39). That carrying the packet out and sending its RESP are one step is the model's choice
(log 3). How a notice waits is the model's choice (log 15). -/
def Obligations.FaceSetEffect : Prop :=
  ∀ (s : State) (p : Packet) (rest : List Packet) (code : Byte), Asks s p rest 0x10 [code] →
    s.loader.running = false →
    (2 ≤ code.toNat → exec .faceSet s = .next (answered s p rest .range []))
    ∧ (∀ facing : Facing, facing.code = code.toNat →
      let switched := fun (new : Posture) =>
        { s with
          posture := { s.posture with facing := facing, posture := new, candidate := none, dwellCount := 0 }
          reports := s.reports.offer s.guard.tick (.posture new s.posture.posture s.posture.f false true)
          mapper := { s.mapper with
            notices := s.mapper.notices ++ [.posture] } }
      (s.posture.posture = .closedFront → facing = .back →
        exec .faceSet s = .next (answered (switched .closedBack) p rest .ok []))
      ∧ (s.posture.posture = .closedBack → facing = .front →
        exec .faceSet s = .next (answered (switched .closedFront) p rest .ok []))
      ∧ (¬ (s.posture.posture = .closedFront ∧ facing = .back) → ¬ (s.posture.posture = .closedBack ∧ facing = .front) →
        exec .faceSet s = .next (answered { s with posture := { s.posture with facing := facing } } p rest .ok [])))

/-- ANGLE_SET and ANGLE_CAL: a set that fails a test is RANGE and changes nothing; else every value is stored, a k
above 5 as 5 and a dwell of 0 as 1, the candidate is cleared, the sample timer restarts, and the RESP carries the
values as stored; posture, y, f, w, miss count and sensor-lost flag stay (R45, R46). An offset of -2048 to 2047 is
stored alone; any other is RANGE (R47). That carrying the packet out and sending its RESP are one step is the model's
choice (log 3). -/
def Obligations.AngleCommands : Prop :=
  (∀ (s : State) (p : Packet) (rest : List Packet)
    (rate k ce1 ce0 cx1 cx0 ox1 ox0 oe1 oe0 dwell address register : Byte),
    Asks s p rest 0x11 [rate, k, ce1, ce0, cx1, cx0, ox1, ox0, oe1, oe0, dwell, address, register] →
    s.loader.running = false →
      let word := fun (hi lo : Byte) => hi.toNat * 256 + lo.toNat
      let passes := rate.toNat ≤ 3 ∧ word ce1 ce0 < word cx1 cx0 ∧ word cx1 cx0 ≤ word ox1 ox0
        ∧ word ox1 ox0 < word oe1 oe0 ∧ word oe1 oe0 ≤ 2048 ∧ address.toNat ≤ 127
      (¬ passes → exec .angleSet s = .next (answered s p rest .range []))
      ∧ (passes → exec .angleSet s = .next (answered
          { s with posture := { s.posture with
              config :=
                { rate := rate.toNat, k := min k.toNat 5
                  thresholds := ⟨word ce1 ce0, word cx1 cx0, word ox1 ox0, word oe1 oe0⟩
                  dwell := if dwell = 0 then 1 else dwell.toNat
                  sensorAddress := BitVec.ofNat 7 address.toNat, sensorRegister := register }
              candidate := none, dwellCount := 0, sampleTimer := 0 } } p rest .ok
          [rate, if 5 < k.toNat then 5 else k, ce1, ce0, cx1, cx0, ox1, ox0, oe1, oe0,
            if dwell = 0 then 1 else dwell, address, register])))
  ∧ (∀ (s : State) (p : Packet) (rest : List Packet) (hi lo : Byte), Asks s p rest 0x12 [hi, lo] →
    s.loader.running = false →
      let unsigned : Int := hi.toNat * 256 + lo.toNat
      let offset : Int := if unsigned < 32768 then unsigned else unsigned - 65536
      (-2048 ≤ offset → offset ≤ 2047 → exec .angleCal s = .next (answered
        { s with posture := { s.posture with offset := offset } } p rest .ok []))
      ∧ (offset < -2048 ∨ 2047 < offset → exec .angleCal s = .next (answered s p rest .range [])))

/-- The filter update leaves y between its old value and the target inclusive, reaches the target at once for k = 0,
from above always moves, and from below stops short of the target by less than 2^k; f is y / 16 to the nearest, halves
up (R32, R33). -/
def Obligations.FilterMovesBetween : Prop :=
  (∀ (k y a : Nat),
    min y (16 * a) ≤ filterStep k (some y) a ∧ filterStep k (some y) a ≤ max y (16 * a)
      ∧ (k = 0 → filterStep k (some y) a = 16 * a)
      ∧ (16 * a < y → filterStep k (some y) a < y)
      ∧ (y < 16 * a → (filterStep k (some y) a = y ↔ 16 * a - y < 2 ^ k)))
  ∧ (∀ y : Nat, 16 * filteredAngle y ≤ y + 8 ∧ y + 8 < 16 * filteredAngle y + 16)
  ∧ (∀ y : Nat, y ≤ 32768 → filteredAngle y ≤ 2048) ∧ (∀ k a : Nat, filteredAngle (filterStep k none a) = a)

/-- Every step keeps the ranges of the posture unit and of the gains: thresholds in order, y at most 32768, f at most
2048, w at most 256, the dwell count below D, the points in order, and every gain at most 4095 (R32, R33, R35, R44,
R45, R47, R107, R110, R111). -/
def Obligations.EveryStepKeepsSensing : Prop :=
  ∀ s t : State, SensingLaw s → step s = .next t → SensingLaw t

/-! ### Side bus (chapter 3) -/

/-- What the lines do to the bus state: a start condition makes it BUSY and sets the idle timer to 0; a stop condition,
or 2 ms with both lines high, makes it FREE; a line going low sets the idle timer to 0 and leaves the state (R50). That
the idle timer reads 2000 microseconds after the 2 ms is the model's unit (log 8). An attempt starts when a request is
WAITING on a FREE bus: the slot is ACTIVE, the start condition is sent and makes the bus BUSY (R50, R52). A lost
arbitration releases the lines, leaves the bus BUSY, and returns the same request to WAITING with the total timer
unchanged, the stretch timer 0 and the received bytes discarded; it is lost short of the data bytes, how far is a free
value (R57, R58, log 20). Nothing else changes. With no transaction ACTIVE no row that ends or breaks one changes
anything (log 2). That the start of an attempt discards the received bytes is the model's choice (log 17). -/
def Obligations.BusWatchingAndAttempts : Prop :=
  (∀ s : State,
    exec .busStartSeen s = .next { s with bus := { s.bus with state := .busy, idleTimer := 0, linesHigh := false } }
    ∧ exec .busStopSeen s = .next { s with bus := { s.bus with state := .free, linesHigh := true } }
    ∧ exec .busIdleTimeout s = .next
        { s with bus := { s.bus with state := .free, idleTimer := 2000, linesHigh := true } }
    ∧ exec .busLineLow s = .next { s with bus := { s.bus with idleTimer := 0, linesHigh := false } })
  ∧ (∀ (s : State) (r : Request), s.bus.slot = .waiting r → s.bus.state = .free →
    exec .transactionStart s = .next { sent s [.start] with bus := { s.bus with
      slot := .active r, state := .busy, idleTimer := 0, linesHigh := false, linesReleased := false
      stretchTimer := 0, received := [] } })
  ∧ (∀ (s : State) (r : Request), s.bus.slot = .active r → ∃ n < contestedSymbols r,
    exec .arbitrationLost s = .next { sent s ((requestSymbols r).take n) with
      bus := { s.bus with
        slot := .waiting r, state := .busy, linesHigh := false, linesReleased := true, stretchTimer := 0
        received := [] }
      freeIndex := s.freeIndex + 1 })
  ∧ (∀ s : State, (∀ r, s.bus.slot ≠ .active r) →
    exec .arbitrationLost s = .next s ∧ exec .nackAbort s = .next s ∧ exec .stretchTimeout s = .next s
      ∧ (∀ first second lateLoss, exec (.sensorReadComplete first second lateLoss) s = .next s)
      ∧ (∀ bytes lateLoss, exec (.nvmReadComplete bytes lateLoss) s = .next s)
      ∧ (s.bus.slot = .empty ∨ s.bus.state = .busy → exec .transactionStart s = .next s))

/-- An aborted sensor read is a failed sample, whichever of the three faults aborted it (R59 to R62): the slot is
handed on, the miss count rises to at most 8, the miss that brings it to 8 with the flag clear sets the sensor-lost
flag and offers SENSOR_LOST with the held f, and y, f, w, posture, candidate and count stay (R41). A NACK comes where
an acknowledge from the sensor is expected and ends in a stop condition and a FREE bus; a stretch timeout sends no
stop condition and leaves the bus BUSY; a total timeout leaves it as it was in WAITING, and in ACTIVE ends in a stop
condition and FREE or, with SCL held low, without one and BUSY. How far an attempt had got, short of its last bit, is
a free value (log 20). That the timers read 0 in an EMPTY slot and that the abort discards the bytes received so far
is the model's choice (log 17). That a total timeout with SCL held low leaves the bus BUSY is read from R60 (log 24).
-/
def Obligations.AbortedSensorRead : Prop :=
  ∀ (s : State) (address : BitVec 7) (register : Byte),
    let symbols := requestSymbols (.sensor address register)
    let failed := fun (t : State) =>
      { t with
        posture := { s.posture with
          outstanding := false, missCount := min (s.posture.missCount + 1) 8
          sensorLost := s.posture.sensorLost || s.posture.missCount == 7 }
        reports := if s.posture.missCount = 7 ∧ s.posture.sensorLost = false then
            s.reports.offer s.guard.tick (.fault .sensorLost .front 0 s.posture.f) else s.reports }
    (s.bus.slot = .active (.sensor address register) →
      (∃ n ∈ acknowledgesExpected (.sensor address register),
        exec .nackAbort s = .next (failed (brokenOff s (symbols.take n ++ [.stop]) .free true)))
      ∧ ∃ n < symbols.length, exec .stretchTimeout s = .next (failed (brokenOff s (symbols.take n) .busy false))
        ∧ exec (.totalTimeout false) s = .next (failed (brokenOff s (symbols.take n ++ [.stop]) .free true))
        ∧ exec (.totalTimeout true) s = .next (failed (brokenOff s (symbols.take n) .busy false)))
    ∧ (s.bus.slot = .waiting (.sensor address register) → ∀ low : Bool,
      exec (.totalTimeout low) s =
        .next (failed { s with bus := handedOn s.bus [] s.bus.state s.bus.linesHigh }))

/-- An aborted NVM read ends the loader run with BUS_FAULT, whichever of the three faults aborted it (R59 to R62,
R181): the outcome is stored, a LOADER record with the counts and the address reached is offered, the loader is IDLE,
and the posture unit restarts from UNSET (R48, R185). What each fault leaves on the lines is as for a sensor read, a
NACK coming where an acknowledge from the memory is expected. How far an attempt had got, short of its last bit, is a
free value (log 20). That the timers read 0 in an EMPTY slot and that the abort discards the bytes received so far is
the model's choice (log 17). A total timeout with SCL held low leaves the bus BUSY (log 24). -/
def Obligations.AbortedNvmRead : Prop :=
  ∀ (s : State) (address count : Nat), s.loader.running = true →
    let symbols := requestSymbols (.nvm address count)
    let failed := fun (t : State) =>
      { t with
        loader := { s.loader with lastOutcome := .busFault, running := false, phase := .idle }
        reports := s.reports.offer s.guard.tick (.loader .busFault s.loader.applied s.loader.failed
          (match s.loader.phase with
            | .header | .body _ _ _ => s.loader.sectionStart
            | .marker | .idle => 0))
        posture := { s.posture with posture := .unset, y := none, candidate := none, dwellCount := 0 } }
    (s.bus.slot = .active (.nvm address count) →
      (∃ n ∈ acknowledgesExpected (.nvm address count),
        exec .nackAbort s = .next (failed (brokenOff s (symbols.take n ++ [.stop]) .free true)))
      ∧ ∃ n < symbols.length, exec .stretchTimeout s = .next (failed (brokenOff s (symbols.take n) .busy false))
        ∧ exec (.totalTimeout false) s = .next (failed (brokenOff s (symbols.take n ++ [.stop]) .free true))
        ∧ exec (.totalTimeout true) s = .next (failed (brokenOff s (symbols.take n) .busy false)))
    ∧ (s.bus.slot = .waiting (.nvm address count) → ∀ low : Bool,
      exec (.totalTimeout low) s =
        .next (failed { s with bus := handedOn s.bus [] s.bus.state s.bus.linesHigh }))

/-- Every step keeps the precedence of the loader on the side bus: at most one request of each kind, a sensor read in
the slot exactly while one is outstanding, an NVM read held exactly while the loader is RUNNING, and the lines driven
exactly while a transaction is ACTIVE (R27, R51, R52, R53, R57, R181). -/
def Obligations.EveryStepKeepsRequests : Prop :=
  ∀ s t : State, RequestLaw s → step s = .next t → RequestLaw t

/-! ### Start-up image (chapter 12) -/

/-- IMAGE_RELOAD with the loader IDLE starts a run and returns OK: RUNNING, cursor 0, both counts 0, failure clear,
the last outcome kept, the limit read from NVSZ; both maps name slot 0, slots 1 to 7 become EMPTY and slot 0 stays;
the repaint-pending flag is set; the marker is requested, behind a sensor read that is in the slot (R25, R52, R53,
R102, R180, R181). The emission, guard, gain, intake, posture and engine states stay. That carrying the packet out and
sending its RESP are one step is the model's choice (log 3). -/
def Obligations.ImageReloadStartsRun : Prop :=
  ∀ (s : State) (p : Packet) (rest : List Packet), Asks s p rest 0x80 [] → s.loader.running = false →
    ∃ store : LayoutStore, store.slots[0] = s.store.slots[0]
      ∧ (∀ i : Fin 8, i ≠ 0 → store.slots[i] = ⟨.empty, ⟨⟨.live, .live, .live⟩, []⟩⟩)
      ∧ store.active = ⟨0, 0, 0, 0⟩ ∧ store.pendingMap = ⟨0, 0, 0, 0⟩
      ∧ exec .imageReload s = .next (answered
          { s with
            store := store
            mapper := { s.mapper with repaintPending := true }
            loader := { s.loader with
              running := true, cursor := 0, applied := 0, failed := 0, failureNoted := false
              limit := if s.outside.nvszHigh = true then 65535 else 8191, phase := .marker }
            bus := match s.bus.slot with
              | .empty => { s.bus with slot := .waiting (.nvm 0 1), totalTimer := 0 }
              | .waiting _ | .active _ => { s.bus with waitingRequest := some (.nvm 0 1) } } p rest .ok [])

/-- The walk through the image, step by step (R181, R182, R185), with nothing waiting behind the loader's read: the
marker read leads to the header at address 1, or ends the run with NO_IMAGE; a header leads to FORMAT, to COMPLETE or
PARTIAL, to OVERFLOW when the last byte of a body or skip lies beyond the limit, to the first read of a known body, past
an unknown body to the next header, or past a known kind of length 0, which counts as failed, to the next header; a read
that leaves a body short leads to the next read of it, and one that completes it has the section applied and counted,
before the header after it is read. A header whose last byte lies beyond the limit ends the run with OVERFLOW. Each end
offers a LOADER record and restarts the posture unit. Each read has sent orders 2 to 9 of R55 and leaves the bus FREE;
where arbitration was lost at the final bit there is no stop condition and the bus is BUSY (R55, R58). That the whole
body is tested against the limit before its first read is log 16, the value held for an address past 65535 is free (log
11), and that the timers read 0 in an EMPTY slot and the received bytes are kept is log 17: the model's choices. -/
def Obligations.LoaderWalk : Prop :=
  ∀ (s : State) (address count : Nat) (lateLoss : Bool), s.bus.slot = .active (.nvm address count) →
    s.bus.waitingRequest = none → 8191 ≤ s.loader.limit → s.loader.limit ≤ 65535 →
    let l := s.loader
    let does := fun (bytes : List Byte) (t : State) => exec (.nvmReadComplete bytes lateLoss) s = .next t
    let taken := fun (bytes : List Byte) => readDone s (.nvm address count) bytes lateLoss
    let held := fun (next x i : Nat) =>
      x ≤ 65535 ∧ s.freeIndex ≤ i ∧ (next ≤ 65535 → x = next ∧ i = s.freeIndex)
    let reads := fun (t : State) (i start n : Nat) (loader : Loader) =>
      { t with bus := { t.bus with slot := .waiting (.nvm start n) }, loader := loader, freeIndex := i }
    let ended := fun (t : State) (i : Nat) (outcome : LoadOutcome) (reached : Nat) (loader : Loader) =>
      { t with
        loader := { loader with lastOutcome := outcome, running := false, phase := .idle }
        reports := t.reports.offer t.guard.tick (.loader outcome loader.applied loader.failed reached)
        posture := { t.posture with posture := .unset, y := none, candidate := none, dwellCount := 0 }
        freeIndex := i }
    let nextSection := fun (bytes : List Byte) (t : State) (loader : Loader) (next : Nat) => ∃ x i, held next x i
      ∧ (next + 3 ≤ l.limit → does bytes (reads t i next 4
          { loader with cursor := next, sectionStart := next, phase := .header }))
      ∧ (l.limit < next + 3 →
          does bytes (ended t i .overflow x { loader with cursor := x, sectionStart := x }))
    (l.phase = .marker → count = 1 → ∀ b : Byte,
      (b ≠ 0xC3 → does [b] (ended (taken [b]) s.freeIndex .noImage 0 l))
      ∧ (b = 0xC3 → does [b] (reads (taken [b]) s.freeIndex 1 4
          { l with cursor := 1, sectionStart := 1, phase := .header })))
    ∧ (l.phase = .header → count = 4 → ∀ marker kind hi lo : Byte,
      let length := hi.toNat * 256 + lo.toNat
      let next := l.cursor + 4
      let bytes := [marker, kind, hi, lo]
      let body := kind ≠ 0 ∧ length ≠ 0 ∧ l.limit < next + length - 1
      (∃ x i, held next x i
        ∧ (marker ≠ 0x3C → does bytes (ended (taken bytes) i .format l.sectionStart { l with cursor := x }))
        ∧ (marker = 0x3C → kind = 0 → does bytes (ended (taken bytes) i
            (if l.failureNoted = true then .partialLoad else .complete) l.sectionStart { l with cursor := x }))
        ∧ (marker = 0x3C → body →
            does bytes (ended (taken bytes) i .overflow l.sectionStart { l with cursor := x })))
      ∧ (marker = 0x3C → 1 ≤ kind.toNat → kind.toNat ≤ 7 → length ≠ 0 → ¬ body →
          does bytes (reads (taken bytes) s.freeIndex next (min 64 length)
            { l with cursor := next, phase := .body kind length [] }))
      ∧ (marker = 0x3C → 1 ≤ kind.toNat → kind.toNat ≤ 7 → length = 0 →
          nextSection bytes (taken bytes) { l with failed := l.failed + 1, failureNoted := true } next)
      ∧ (marker = 0x3C → 7 < kind.toNat → ¬ body → nextSection bytes (taken bytes) l (next + length)))
    ∧ (∀ (kind : Byte) (length : Nat) (got bytes : List Byte), l.phase = .body kind length got →
      got.length < length → count = min 64 (length - got.length) → bytes.length = count →
      let next := l.cursor + count
      (got.length + count < length → ∃ x i, held next x i
        ∧ does bytes (reads (taken bytes) i x (min 64 (length - (got.length + count)))
            { l with cursor := x, phase := .body kind length (got ++ bytes) }))
      ∧ (got.length + count = length →
        let applied := (taken bytes).applySection kind (got ++ bytes)
        nextSection bytes applied.2
          { l with
            applied := if applied.1 = true then l.applied + 1 else l.applied
            failed := if applied.1 = true then l.failed else l.failed + 1
            failureNoted := !applied.1 || l.failureNoted } next))

/-- A LAYOUT section of the right length (R183): refused at admission (slot 0, above 7, or named in a map) or with a
count above 12, it fails and changes nothing; once writing has begun it leaves its slot READY with the layout and
counts as applied, when every field lies in its range and the check passes, and otherwise leaves its slot EMPTY and
fails. Each entry is the one that its 20 bytes give to ENTRY_PUT. -/
def Obligations.LayoutSection : Prop :=
  ∀ (s : State) (n f sp b count : Byte) (bytes : List Byte), bytes.length = 20 * count.toNat →
    let body := n :: f :: sp :: b :: count :: bytes
    let entry := fun (j : Nat) => parseEntry ((bytes.drop (20 * j)).take 20)
    (n = 0 ∨ 8 ≤ n.toNat ∨ 12 < count.toNat ∨ (∃ i : Fin 8, i.val = n.toNat ∧ s.store.inUse i = true) →
      s.applySection 6 body = (false, s))
    ∧ (∀ i : Fin 8, i.val = n.toNat → i ≠ 0 → s.store.inUse i = false → count.toNat ≤ 12 →
      let written := fun slot => { s with store := { s.store with slots := s.store.slots.set i slot } }
      (∀ l : Layout, [l.modes.front.code, l.modes.spine.code, l.modes.back.code] = [f.toNat, sp.toNat, b.toNat] →
          l.entries.length = count.toNat → (∀ j < count.toNat, entry j = l.entries[j]?) →
          (l.check = none → s.applySection 6 body = (true, written ⟨.ready, l⟩))
          ∧ (l.check ≠ none → s.applySection 6 body = (false, written ⟨.empty, ⟨⟨.live, .live, .live⟩, []⟩⟩)))
      ∧ (2 < f.toNat ∨ 2 < sp.toNat ∨ 2 < b.toNat ∨ (∃ j < count.toNat, entry j = none) →
          s.applySection 6 body = (false, written ⟨.empty, ⟨⟨.live, .live, .live⟩, []⟩⟩)))

/-- The other known sections (R182, R184): one of a wrong length fails and changes nothing; ANGLE and GAIN store all
their values, or fail and store none; EMIT and GUARD store theirs with the clamps of their commands; PROFILE stores
each profile that passes and MAP each entry that names a READY slot, with one notice for it, and each fails when any
of its parts is not stored. How a notice waits is the model's choice (log 15). -/
def Obligations.OtherSections : Prop :=
  ∀ s : State,
    let word := fun (hi lo : Byte) => hi.toNat * 256 + lo.toNat
    let signed := fun (hi lo : Byte) => if word hi lo < 32768 then (word hi lo : Int) else (word hi lo : Int) - 65536
    let words := fun (values : List Nat) => values.flatMap fun v => [BitVec.ofNat 8 (v / 256), BitVec.ofNat 8 v]
    (∀ (kind : Byte) (body : List Byte), (kind = 1 ∧ body.length ≠ 15) ∨ (kind = 2 ∧ body.length ≠ 292)
        ∨ (kind = 3 ∧ body.length ≠ 10) ∨ (kind = 4 ∧ body.length ≠ 2) ∨ (kind = 5 ∧ body.length ≠ 9)
        ∨ (kind = 6 ∧ ∀ count, body[4]? = some count → body.length ≠ 5 + 20 * count.toNat)
        ∨ (kind = 7 ∧ body.length ≠ 4) →
      s.applySection kind body = (false, s))
    ∧ (∀ rate k ce1 ce0 cx1 cx0 ox1 ox0 oe1 oe0 dwell address register hi lo : Byte,
      let passes := rate.toNat ≤ 3 ∧ word ce1 ce0 < word cx1 cx0 ∧ word cx1 cx0 ≤ word ox1 ox0
        ∧ word ox1 ox0 < word oe1 oe0 ∧ word oe1 oe0 ≤ 2048 ∧ address.toNat ≤ 127
        ∧ -2048 ≤ signed hi lo ∧ signed hi lo ≤ 2047
      let body := [rate, k, ce1, ce0, cx1, cx0, ox1, ox0, oe1, oe0, dwell, address, register, hi, lo]
      (passes → s.applySection 1 body = (true,
        { s with posture := { s.posture with
            config :=
              { rate := rate.toNat, k := min k.toNat 5
                thresholds := ⟨word ce1 ce0, word cx1 cx0, word ox1 ox0, word oe1 oe0⟩
                dwell := if dwell = 0 then 1 else dwell.toNat
                sensorAddress := BitVec.ofNat 7 address.toNat, sensorRegister := register }
            offset := signed hi lo, candidate := none, dwellCount := 0, sampleTimer := 0 } }))
      ∧ (¬ passes → s.applySection 1 body = (false, s)))
    ∧ (∀ (flat fold : Vector Nat 72) (foldPt flatPt : Nat), (∀ c : Fin 72, flat[c] < 65536 ∧ fold[c] < 65536) →
      foldPt < 65536 → flatPt < 65536 →
      let passes := (∀ c : Fin 72, flat[c] ≤ 4095 ∧ fold[c] ≤ 4095) ∧ foldPt < flatPt ∧ flatPt ≤ 2048
      let body := words (flat.toList ++ fold.toList ++ [foldPt, flatPt])
      (passes → s.applySection 2 body = (true,
        { s with gain := { s.gain with flat := flat, fold := fold, foldPt := foldPt, flatPt := flatPt } }))
      ∧ (¬ passes → s.applySection 2 body = (false, s)))
    ∧ (∀ f1 f0 s1 s0 b1 b0 p1 p0 t1 t0 : Byte,
      let zones := s.emission.zones
      let period := word p1 p0
      let fadeStep := word t1 t0
      s.applySection 3 [f1, f0, s1, s0, b1, b0, p1, p0, t1, t0] = (true,
        { s with emission := { s.emission with
            zones := ⟨{ zones.front with commanded := min (word f1 f0) 1023 },
              { zones.spine with commanded := min (word s1 s0) 1023 },
              { zones.back with commanded := min (word b1 b0) 1023 }⟩
            pendingPeriod := some (if period < 64 then 64 else if 4096 < period then 4096 else period)
            fadeStep := if fadeStep = 0 then 1 else if 1023 < fadeStep then 1023 else fadeStep } }))
    ∧ (∀ h b : Byte,
      let blank : Nat := if b = 0 then 1 else b.toNat
      s.applySection 4 [h, b] = (true,
        { s with guard := { s.guard with
            holdCode := h.toNat, blankCode := blank
            timer := match s.guard.state with
              | .live => if h = 0 then none else some ⟨0, h.toNat * 16⟩
              | .hold => some ⟨0, blank * 64⟩
              | .blank => none } }))
    ∧ (∀ c1 w1 t1 c2 w2 t2 c3 w3 t3 : Byte,
      let good := fun (c w t : Byte) => decide (1 ≤ c.toNat ∧ c.toNat ≤ 3 ∧ w.toNat ≤ 3 ∧ t.toNat ≤ 3)
      let stored := fun (old : Profile) (c w t : Byte) =>
        if good c w t = true then ⟨c.toNat, w.toNat, t.toNat⟩ else old
      let old := s.engine.profiles
      s.applySection 5 [c1, w1, t1, c2, w2, t2, c3, w3, t3] =
        (good c1 w1 t1 && good c2 w2 t2 && good c3 w3 t3,
          { s with engine := { s.engine with
              profiles := ⟨stored old.front c1 w1 t1, stored old.spine c2 w2 t2, stored old.back c3 w3 t3⟩ } }))
    ∧ (∀ n1 n2 n3 n4 : Byte,
      let ready : Byte → Bool := fun n => match s.store.slots[n.toNat]? with
        | some slot => decide (slot.state = .ready)
        | none => false
      let stored := fun (old : Fin 8) (n : Byte) => if ready n = true then Fin.ofNat 8 n.toNat else old
      let old := s.store.pendingMap
      let notices : List Notice := List.replicate ([n1, n2, n3, n4].countP ready) .mapSet
      s.applySection 7 [n1, n2, n3, n4] =
        (ready n1 && ready n2 && ready n3 && ready n4,
          { s with
            store := { s.store with pendingMap :=
              ⟨stored old.opened n1, stored old.bent n2, stored old.closedFront n3, stored old.closedBack n4⟩ }
            mapper := { s.mapper with notices := s.mapper.notices ++ notices } }))

/-! ### Frame intake (chapter 4) -/

/-- FOPEN taken in IDLE: the header, the last frame number, the counts and the anomaly set are the new frame's and the
stray-reported flag is clear; a bad geometry, or else fewer than 2 free items, refuses the frame and places nothing;
else a FRAME_START is placed and one item reserved. In each case the FOPEN is an arrival for the guard (R65, R68,
R71). An FOPEN taken in RECEIVING or REFUSING first ends the open frame as TRUNCATED, with its FRAME_END in the
reserved item if it was accepted and its INTAKE record offered, and is then taken as in IDLE (R69, R70; that this
record precedes a GUARD record of the arrival is log 10). -/
def Obligations.FopenEffect : Prop :=
  ∀ (s : State) (frame width height : Word16),
    let opened := fun (state : IntakeState) (anomalies : BitVec 16) (reserved : Bool) (queue : List IntakeItem) =>
      State.fopenArrival { s with intake := { s.intake with
        header := ⟨frame, width.toNat, height.toNat⟩, lastFrame := frame, lastRow := none, arrived := 0
        accepted := 0, dropped := 0, firstDropped := none, strayReported := false
        state := state, anomalies := anomalies, reserved := reserved, queue := queue } }
    let goodGeometry := 1 ≤ width.toNat ∧ width.toNat ≤ 1800 ∧ 1 ≤ height.toNat ∧ height.toNat ≤ 2400
    let held := s.intake.queue.length + (if s.intake.reserved = true then 1 else 0)
    let truncated := fun (i : Intake) => State.offer { s with intake := { i with state := .idle } }
      (.intake s.intake.header.number (s.intake.anomalies ||| 4) s.intake.accepted s.intake.dropped
        s.intake.firstDropped)
    (s.intake.state = .idle → ¬ goodGeometry →
      exec (.fopen frame width height) s = .next (opened .refusing 1 s.intake.reserved s.intake.queue))
    ∧ (s.intake.state = .idle → goodGeometry → 38 < held →
      exec (.fopen frame width height) s = .next (opened .refusing 2 s.intake.reserved s.intake.queue))
    ∧ (s.intake.state = .idle → goodGeometry → held ≤ 38 →
      exec (.fopen frame width height) s = .next (opened .receiving 0 true
        (s.intake.queue ++ [.frameStart frame width.toNat height.toNat])))
    ∧ (s.intake.state = .receiving →
      exec (.fopen frame width height) s = exec (.fopen frame width height)
        (truncated { s.intake with
          anomalies := s.intake.anomalies ||| 4, queue := s.intake.queue ++ [.frameEnd], reserved := false }))
    ∧ (s.intake.state = .refusing →
      exec (.fopen frame width height) s = exec (.fopen frame width height)
        (truncated { s.intake with anomalies := s.intake.anomalies ||| 4 }))

/-- A LINE that passes the tests of R74: the lowest-numbered free line slot takes exactly W pixels, the payload cut or
padded with black, with the hold set and no reference; its item is placed, the row is the last accepted, the counts
rise, and a payload shorter than W adds SHORT_LINE (R67, R74, R75). Nothing else changes. -/
def Obligations.LineAccepted : Prop :=
  ∀ (s : State) (row : Word16) (payload : List Pixel) (n : Fin 32), s.intake.state = .receiving →
    row.toNat < s.intake.header.height → (∀ last, s.intake.lastRow = some last → last < row.toNat) →
    s.intake.queue.length + (if s.intake.reserved = true then 1 else 0) < 40 →
    s.intake.lines[n] = none → (∀ m : Fin 32, m < n → s.intake.lines[m] ≠ none) →
    ∃ pixels : List Pixel, pixels.length = s.intake.header.width
      ∧ (∀ c < s.intake.header.width, pixels[c]? = some (payload.getD c Pixel.black))
      ∧ exec (.line row payload) s = .next { s with intake := { s.intake with
          arrived := min (s.intake.arrived + 1) 65535
          accepted := s.intake.accepted + 1
          lastRow := some row.toNat
          anomalies := if payload.length < s.intake.header.width then s.intake.anomalies ||| 0x080
            else s.intake.anomalies
          queue := s.intake.queue ++ [.line n row.toNat]
          lines := s.intake.lines.set n (some ⟨pixels, true, 0⟩) } }

/-- Every LINE that is discarded (R72, R73, R74): in RECEIVING the first test that fails adds its anomaly; in REFUSING
nothing is tested; in both the counts rise, stopping at 65535, and the first dropped row is set if it is none; in IDLE
no count changes, and the first stray line of a gap sets the stray-reported flag and offers a record that carries
STRAY_LINE alone. No line takes a slot or places an item. -/
def Obligations.LineDiscarded : Prop :=
  ∀ (s : State) (row : Word16) (payload : List Pixel),
    let discarded := fun (anomaly : BitVec 16) =>
      { s with intake := { s.intake with
        arrived := min (s.intake.arrived + 1) 65535
        dropped := min (s.intake.dropped + 1) 65535
        firstDropped := match s.intake.firstDropped with
          | none => some row.toNat
          | some first => some first
        anomalies := s.intake.anomalies ||| anomaly } }
    let inOrder := ∀ last, s.intake.lastRow = some last → last < row.toNat
    (s.intake.state = .receiving → s.intake.header.height ≤ row.toNat →
      exec (.line row payload) s = .next (discarded 0x010))
    ∧ (s.intake.state = .receiving → row.toNat < s.intake.header.height → ¬ inOrder →
      exec (.line row payload) s = .next (discarded 0x020))
    ∧ (s.intake.state = .receiving → row.toNat < s.intake.header.height → inOrder →
      (40 ≤ s.intake.queue.length + (if s.intake.reserved = true then 1 else 0)
        ∨ ∀ n : Fin 32, s.intake.lines[n] ≠ none) →
      exec (.line row payload) s = .next (discarded 0x040))
    ∧ (s.intake.state = .refusing → exec (.line row payload) s = .next (discarded 0))
    ∧ (s.intake.state = .idle → s.intake.strayReported = true → exec (.line row payload) s = .next s)
    ∧ (s.intake.state = .idle → s.intake.strayReported = false →
      exec (.line row payload) s = .next (State.offer
        { s with intake := { s.intake with strayReported := true } }
        (.intake s.intake.lastFrame 0x100 0 1 (some row.toNat))))

/-- FCLOSE: MISSING is added when the lines-sent count differs from lines arrived. In RECEIVING a FRAME_END takes the
reserved item, and the record is offered if the anomaly set is not empty; in REFUSING nothing is placed and the record
is offered by the same test; both enter IDLE. In IDLE it is discarded and changes nothing (R76, R77). -/
def Obligations.FcloseEffect : Prop :=
  ∀ (s : State) (linesSent : Word16),
    let anomalies := if linesSent.toNat = s.intake.arrived then s.intake.anomalies else s.intake.anomalies ||| 8
    let reported := fun (t : State) => if anomalies = 0 then t else
      t.offer (.intake s.intake.header.number anomalies s.intake.accepted s.intake.dropped s.intake.firstDropped)
    (s.intake.state = .receiving → exec (.fclose linesSent) s = .next (reported
      { s with intake := { s.intake with
        anomalies := anomalies, queue := s.intake.queue ++ [.frameEnd], reserved := false, state := .idle } }))
    ∧ (s.intake.state = .refusing → exec (.fclose linesSent) s = .next (reported
      { s with intake := { s.intake with anomalies := anomalies, state := .idle } }))
    ∧ (s.intake.state = .idle → exec (.fclose linesSent) s = .next s)

/-- Every step keeps the order of the intake queue and the bounds of every queue: each frame stands as one
FRAME_START, its lines and one FRAME_END, so the mapper never finds a LINE or FRAME_END while no frame is open (R66,
R83); no queue is ever over its capacity (R66, R121, R164, R173). -/
def Obligations.EveryStepKeepsQueues : Prop :=
  ∀ s t : State, step s = .next t → (AccountLaw s → AccountLaw t) ∧ (CapacityLaw s → CapacityLaw t)

/-! ### Line mapping and fill (chapter 5) -/

/-- FRAME_SET_UP, step by step (R84, R85, R86, R112): the takeover, the lookup, the copy, the snapshot, the zone
modes, the repaint decision with its fill list, cursor, flag and requests, and the APPLIED record of a repaint frame;
a waiting fill run is withdrawn (R97). Nothing else changes. -/
def Obligations.FrameSetUpEffect : Prop :=
  ∀ (s : State) (number : Word16) (width height : Nat) (rest : List IntakeItem), MapperFree s →
    s.intake.queue = .frameStart number width height :: rest →
    let map := s.store.pendingMap
    let slot : Fin 8 := match s.posture.posture with
      | .unset | .opened => map.opened
      | .bent => map.bent
      | .closedFront => map.closedFront
      | .closedBack => map.closedBack
    let copy := s.store.slots[slot].layout
    let other : Fin 2 := if s.gain.current = 0 then 1 else 0
    let gain : GainUnit := if s.gain.buffers[other].refs = 0 then
        { s.gain with
          current := other
          buffers := s.gain.buffers.set other
            ⟨Vector.ofFn fun c : Fin 72 => ((s.gain.flat[c] : Int)
              + (((s.gain.fold[c] : Int) - s.gain.flat[c]) * s.posture.w + 128) / 256).toNat, 0⟩ }
      else s.gain
    let zones := s.emission.zones
    let requested := s.mapper.zoneRequests.front || s.mapper.zoneRequests.spine || s.mapper.zoneRequests.back
    let list := if slot = s.mapper.copySlot ∧ s.mapper.repaintPending = false ∧ s.mapper.cursor = none then
        copy.fillList.filter fun item => s.mapper.zoneRequests.get item.driver
      else copy.fillList
    let set := fun (mapper : Mapper) =>
      { s with
        intake := { s.intake with queue := rest }
        store := { s.store with active := map }
        gain := gain
        emission := { s.emission with zones :=
          ⟨{ zones.front with mode := copy.modes.front }, { zones.spine with mode := copy.modes.spine },
            { zones.back with mode := copy.modes.back }⟩ }
        mapper := { mapper with
          waitingRun := none, postureInEffect := s.posture.posture, copySlot := slot, copy := copy
          frameInHand := some ⟨number, width, height, gain.current⟩, lastFrame := number, frameOpen := true
          changeNotice := false } }
    (slot ≠ s.mapper.copySlot ∨ s.mapper.repaintPending = true ∨ requested = true →
      exec .frameSetUp s = .next (State.offer
        (set { s.mapper with
          fillList := list
          cursor := match list with
            | [] => none
            | first :: _ => some ⟨0, first.row⟩
          repaintPending := false, zoneRequests := ⟨false, false, false⟩ })
        (.applied slot s.posture.posture number (slot ≠ s.mapper.copySlot) (s.mapper.repaintPending || requested) false
          (copy.entries.any fun e => match e.body with
            | .copy _ srcRow _ => decide (height < srcRow + e.dst.height)
            | .fill _ => false))))
    ∧ (slot = s.mapper.copySlot → s.mapper.repaintPending = false → requested = false →
      exec .frameSetUp s = .next (set s.mapper))

/-- A LINE item is taken whole and becomes the line in hand (R83, R88); the copy run that an entry gives from a line
has the fields of R89, exactly when the entry is COPY, its zone is LIVE and the row lies among its source rows; and
when room comes, the waiting run is placed and the mapper carries on from the next entry of the line in hand, or
advances the sweep (R91, R96); with no waiting run, or none with room, nothing changes (log 2). How a line in hand is
examined is the statement `LineExamined`. -/
def Obligations.LineItemEffect : Prop :=
  (∀ (s : State) (slot : Fin 32) (row : Nat) (rest : List IntakeItem) (f : FrameInHand), MapperFree s →
    s.intake.queue = .line slot row :: rest → s.mapper.frameInHand = some f →
    exec .lineItem s = .next (State.examineLine
      { s with
        intake := { s.intake with queue := rest }
        mapper := { s.mapper with lineInHand := some ⟨slot, row, 0⟩ } } f ⟨slot, row, 0⟩))
  ∧ (∀ (modes : PerZone ZoneMode) (f : FrameInHand) (slot : Fin 32) (row srcCol srcRow : Nat) (mirror : Bool)
      (dst : Rect) (z : Zone), LiesIn dst z → 0 < dst.width →
      (modes.get z = .live → srcRow ≤ row → row < srcRow + dst.height →
        copyRun modes f slot row ⟨dst, .copy srcCol srcRow mirror⟩ =
          some ⟨z, dst.row + (row - srcRow), dst.col - z.firstCol, dst.width,
            .copy slot srcCol mirror f.width (if z = .spine then some f.snapshot else none), 0⟩)
      ∧ (modes.get z ≠ .live ∨ row < srcRow ∨ srcRow + dst.height ≤ row →
        copyRun modes f slot row ⟨dst, .copy srcCol srcRow mirror⟩ = none)
      ∧ (∀ colour : Pixel, copyRun modes f slot row ⟨dst, .fill colour⟩ = none))
  ∧ (∀ (s : State) (r : Run) (l : LineInHand) (f : FrameInHand), s.mapper.waitingRun = some r →
    r.isFill = false → (s.engine.queues.get r.driver).length < 8 → s.mapper.lineInHand = some l →
    s.mapper.frameInHand = some f →
    exec .waitingRunPlaced s = .next (State.examineLine
      (State.placeRun { s with mapper := { s.mapper with waitingRun := none } } r) f l))
  ∧ (∀ s : State, (∀ r, s.mapper.waitingRun = some r → 8 ≤ (s.engine.queues.get r.driver).length) →
    exec .waitingRunPlaced s = .next s)
  ∧ (∀ (s : State) (r : Run) (c : Cursor) (item : FillItem), s.mapper.waitingRun = some r → r.isFill = true →
    (s.engine.queues.get r.driver).length < 8 → s.mapper.cursor = some c →
    s.mapper.fillList[c.item]? = some item →
    exec .waitingRunPlaced s = .next
      { s with
        engine := { s.engine with
          queues := s.engine.queues.set r.driver (s.engine.queues.get r.driver ++ [r]) }
        mapper := { s.mapper with
          waitingRun := none
          cursor := if c.row + 1 < item.row + item.height then some ⟨c.item, c.row + 1⟩
            else match s.mapper.fillList[c.item + 1]? with
              | some later => some ⟨c.item + 1, later.row⟩
              | none => none } })

/-- How a line in hand is examined from its next entry on (R67, R88, R91, R92, R113). When every run fits, each stands
on its driver's queue in entry order with its references taken, the hold is released (the slot is free if no run
references it) and the line is no longer in hand. When the queue of some entry's run is full, the runs before it stand
placed, that run waits, and the line stays in hand, with its hold, at the entry after. Nothing else changes. -/
def Obligations.LineExamined : Prop :=
  ∀ (s : State) (f : FrameInHand) (l : LineInHand),
    let give := copyRun s.mapper.copy.modes f l.slot l.row
    let placed := fun (t : State) (runs : List Run) =>
      (∀ d : Driver, t.engine.queues.get d = s.engine.queues.get d ++ runs.filter fun r => r.driver = d)
      ∧ (∀ n : Fin 32, n ≠ l.slot → t.intake.lines[n] = s.intake.lines[n])
      ∧ (∀ n : Fin 2, t.gain.buffers[n] = { s.gain.buffers[n] with
          refs := s.gain.buffers[n].refs + runs.countP fun r => r.source.snapshot? = some n })
      ∧ t = { s with
          engine := { s.engine with queues := t.engine.queues }
          intake := { s.intake with lines := t.intake.lines }
          gain := { s.gain with buffers := t.gain.buffers }
          mapper := t.mapper }
    (∀ runs : List Run, (s.mapper.copy.entries.drop l.next).filterMap give = runs →
      (∀ d : Driver, (s.engine.queues.get d).length + (runs.countP fun r => r.driver = d) ≤ 8) →
      let t := s.examineLine f l
      placed t runs
        ∧ t.mapper = { s.mapper with lineInHand := none }
        ∧ t.intake.lines[l.slot] = match s.intake.lines[l.slot] with
            | none => none
            | some x => if x.refs + runs.length = 0 then none
                else some { x with hold := false, refs := x.refs + runs.length })
    ∧ (∀ (before after : List Entry) (e : Entry) (r : Run) (runs : List Run),
      s.mapper.copy.entries.drop l.next = before ++ e :: after → before.filterMap give = runs → give e = some r →
      (∀ d : Driver, (s.engine.queues.get d).length + (runs.countP fun r => r.driver = d) ≤ 8) →
      (s.engine.queues.get r.driver).length + (runs.countP fun r' => r'.driver = r.driver) = 8 →
      let t := s.examineLine f l
      placed t runs
        ∧ t.mapper = { s.mapper with
            waitingRun := some r, lineInHand := some ⟨l.slot, l.row, l.next + before.length + 1⟩ }
        ∧ t.intake.lines[l.slot] = match s.intake.lines[l.slot] with
            | none => none
            | some x => some { x with refs := x.refs + runs.length })

/-- FRAME_END clears frame open (R93). The sweep places the fill run at its cursor and then advances, or, when the
queue is full, makes it the waiting run and keeps the cursor; it runs while the cursor is not IDLE, frame open is
clear and no line is in hand, and it is paused while a FRAME_START heads the queue (R95, R96, R97; log 15). With frame
open set, a line in hand, a run waiting, the cursor IDLE or a FRAME_START at the head, nothing changes (log 2). The fill
list is the dark zones in zone order, each whole and black, and then the FILL entries in list order (R94). That the
frame in hand stays held after FRAME_END is the model's choice (log 18). -/
def Obligations.FrameEndAndFillSweep : Prop :=
  (∀ (s : State) (rest : List IntakeItem), MapperFree s → s.intake.queue = .frameEnd :: rest →
    exec .frameEnd s = .next
      { s with
        intake := { s.intake with queue := rest }
        mapper := { s.mapper with frameOpen := false } })
  ∧ (∀ (s : State) (c : Cursor) (item : FillItem), s.mapper.frameOpen = false → s.mapper.lineInHand = none →
    s.mapper.waitingRun = none → (∀ n w h rest, s.intake.queue ≠ .frameStart n w h :: rest) →
    s.mapper.cursor = some c → s.mapper.fillList[c.item]? = some item →
    let r : Run := ⟨item.driver, c.row, item.firstCol, item.width, .fill item.colour, 0⟩
    let queue := s.engine.queues.get item.driver
    (queue.length < 8 → exec .fillSweepRun s = .next
      { s with
        engine := { s.engine with queues := s.engine.queues.set item.driver (queue ++ [r]) }
        mapper := { s.mapper with
          cursor := if c.row + 1 < item.row + item.height then some ⟨c.item, c.row + 1⟩
            else match s.mapper.fillList[c.item + 1]? with
              | some later => some ⟨c.item + 1, later.row⟩
              | none => none } })
    ∧ (8 ≤ queue.length → exec .fillSweepRun s = .next
        { s with mapper := { s.mapper with waitingRun := some r } }))
  ∧ (∀ s : State, (s.mapper.frameOpen = true ∨ s.mapper.lineInHand ≠ none ∨ s.mapper.waitingRun ≠ none
      ∨ s.mapper.cursor = none ∨ ∃ n w h rest, s.intake.queue = .frameStart n w h :: rest) →
    exec .fillSweepRun s = .next s)
  ∧ (∀ l : Layout, LayoutLaw l → (∀ e ∈ l.entries, 0 < e.dst.width) → ∃ fills : List FillItem,
    l.fillList = (if l.modes.front = .dark then [⟨.front, 0, 0, 864, 2400, Pixel.black⟩] else [])
      ++ (if l.modes.spine = .dark then [⟨.spine, 0, 0, 72, 2400, Pixel.black⟩] else [])
      ++ (if l.modes.back = .dark then [⟨.back, 0, 0, 864, 2400, Pixel.black⟩] else []) ++ fills
    ∧ List.Forall₂ (fun (item : FillItem) (e : Entry) => e.body = .fill item.colour ∧ LiesIn e.dst item.driver
        ∧ item.firstCol = e.dst.col - item.driver.firstCol ∧ item.row = e.dst.row ∧ item.width = e.dst.width
        ∧ item.height = e.dst.height)
      fills (l.entries.filter fun e => match e.body with
        | .fill _ => true
        | .copy _ _ _ => false))

/-- The oldest notice acted on with no line in hand (R83): a posture or MAP_SET notice sets the change-notice flag
while the guard state held is LIVE and leads to a standalone apply while it is HOLD or BLANK (R99); a guard notice is
held, sets the repaint-pending flag when it leaves BLANK, and leads to a standalone apply from LIVE to HOLD with the
flag set (R99, R102, R159); a drop notice sets its zone's repaint request (R103). With a line in hand, or while another
notice or none is the oldest, a notice row changes nothing (R83, log 2). While a line is in hand, a copy run waits or a
notice waits, or with an item of another kind or none at the head, no row that takes an intake item changes anything
(R83, R91, R92; log 2, log 15). -/
def Obligations.NoticesEffect : Prop :=
  ∀ (s : State) (rest : List Notice),
    let acted := fun (mapper : Mapper) => { s with mapper := { mapper with notices := rest } }
    (∀ n : Notice, ∀ c : Instr, (n = .posture ∧ c = .postureNotice) ∨ (n = .mapSet ∧ c = .mapSetNotice) →
      NoticeDue s n rest →
      (s.mapper.guardHeld = .live → exec c s = .next (acted { s.mapper with changeNotice := true }))
      ∧ (s.mapper.guardHeld ≠ .live → exec c s = .next (acted s.mapper).standaloneApply))
    ∧ (∀ new : GuardState, NoticeDue s (.guardState new) rest →
      let held := acted { s.mapper with
        guardHeld := new
        repaintPending := s.mapper.repaintPending || (s.mapper.guardHeld = .blank && new ≠ .blank) }
      (s.mapper.guardHeld = .live → new = .hold → s.mapper.changeNotice = true →
        exec .guardStateNotice s = .next held.standaloneApply)
      ∧ (s.mapper.guardHeld ≠ .live ∨ new ≠ .hold ∨ s.mapper.changeNotice = false →
        exec .guardStateNotice s = .next held))
    ∧ (∀ z : Zone, NoticeDue s (.drop z) rest →
      exec .dropNotice s = .next (acted { s.mapper with zoneRequests := s.mapper.zoneRequests.set z true }))
    ∧ (∀ c ∈ noticeCommands, (s.mapper.lineInHand ≠ none
        ∨ ∀ n later, s.mapper.notices = n :: later → noticeCommand n ≠ c) → exec c s = .next s)
    ∧ (∀ c ∈ itemCommands, (¬ MapperFree s ∨ ∀ item later, s.intake.queue = item :: later →
        itemCommand item ≠ c) → exec c s = .next s)

/-- A standalone apply, step by step (R100): the takeover and the change-notice flag cleared, the lookup, the copy,
the zone modes; it changes the layout when the slot number differs or the repaint-pending flag is set, and then sets
that flag, forms the fill list and starts the cursor; it offers an APPLIED record with STANDALONE. A waiting fill run
is withdrawn and a waiting copy run stays (R101). No snapshot is formed, no run is placed, the zone repaint requests
stay. -/
def Obligations.StandaloneApplyEffect : Prop :=
  ∀ s : State,
    let map := s.store.pendingMap
    let slot : Fin 8 := match s.posture.posture with
      | .unset | .opened => map.opened
      | .bent => map.bent
      | .closedFront => map.closedFront
      | .closedBack => map.closedBack
    let copy := s.store.slots[slot].layout
    let zones := s.emission.zones
    let applied := fun (mapper : Mapper) => State.offer
      { s with
        store := { s.store with active := map }
        emission := { s.emission with zones :=
          ⟨{ zones.front with mode := copy.modes.front }, { zones.spine with mode := copy.modes.spine },
            { zones.back with mode := copy.modes.back }⟩ }
        mapper := { mapper with
          waitingRun := match s.mapper.waitingRun with
            | some r => if r.isFill = true then none else some r
            | none => none
          changeNotice := false, postureInEffect := s.posture.posture, copySlot := slot, copy := copy } }
      (.applied slot s.posture.posture s.mapper.lastFrame (slot ≠ s.mapper.copySlot) false true false)
    (slot ≠ s.mapper.copySlot ∨ s.mapper.repaintPending = true →
      s.standaloneApply = applied { s.mapper with
        repaintPending := true, fillList := copy.fillList
        cursor := match copy.fillList with
          | [] => none
          | first :: _ => some ⟨0, first.row⟩ })
    ∧ (slot = s.mapper.copySlot → s.mapper.repaintPending = false → s.standaloneApply = applied s.mapper)

/-! ### Crease gain (chapter 6) -/

/-- The blended gain is F + floor(((G − F) × w + 128) / 256): F at w = 0, G at w = 256, between F and G inclusive for
every w of 0 to 256, moving monotonically with w, and the entry itself for equal entries (R111). -/
def Obligations.BlendedGain : Prop :=
  ∀ flat fold w : Nat, w ≤ 256 →
    ((blendGain flat fold w : Nat) : Int) = (flat : Int) + (((fold : Int) - flat) * w + 128) / 256
    ∧ blendGain flat fold 0 = flat ∧ blendGain flat fold 256 = fold
    ∧ min flat fold ≤ blendGain flat fold w ∧ blendGain flat fold w ≤ max flat fold
    ∧ (flat ≤ fold → ∀ w' ≤ w, blendGain flat fold w' ≤ blendGain flat fold w)
    ∧ (fold ≤ flat → ∀ w' ≤ w, blendGain flat fold w ≤ blendGain flat fold w')
    ∧ blendGain flat flat w = flat

/-- GAIN_LOAD writes count consecutive entries of one table or, when any test fails, nothing (R108). GAIN_POINTS
stores both points, each at most 2048 and fold_pt below flat_pt, or neither (R110). PROFILE_SET stores one driver's
class, wait and turnaround, or nothing (R125). Every other state stays, and a refusal is RANGE. That carrying the
packet out and sending its RESP are one step is the model's choice (log 3). -/
def Obligations.TableCommands : Prop :=
  (∀ (s : State) (p : Packet) (rest : List Packet) (table first count : Byte) (values : List Nat),
    (∀ v ∈ values, v < 65536) → values.length = count.toNat →
    Asks s p rest 0x20 (table :: first :: count ::
      values.flatMap fun v => [BitVec.ofNat 8 (v / 256), BitVec.ofNat 8 v]) → s.loader.running = false →
    (1 < table.toNat ∨ 71 < first.toNat ∨ count.toNat < 1 ∨ 24 < count.toNat ∨ 72 < first.toNat + count.toNat
        ∨ (∃ v ∈ values, 4095 < v) → exec .gainLoad s = .next (answered s p rest .range []))
    ∧ (table.toNat ≤ 1 → 1 ≤ count.toNat → count.toNat ≤ 24 → first.toNat + count.toNat ≤ 72 →
        (∀ v ∈ values, v ≤ 4095) → ∀ (flat fold : Vector Nat 72),
        (∀ c : Fin 72, flat[c] = if table = 0 ∧ first.toNat ≤ c.val ∧ c.val < first.toNat + count.toNat then
            values.getD (c.val - first.toNat) 0 else s.gain.flat[c]) →
        (∀ c : Fin 72, fold[c] = if table = 1 ∧ first.toNat ≤ c.val ∧ c.val < first.toNat + count.toNat then
            values.getD (c.val - first.toNat) 0 else s.gain.fold[c]) →
        exec .gainLoad s = .next (answered { s with gain := { s.gain with flat := flat, fold := fold } } p rest .ok [])))
  ∧ (∀ (s : State) (p : Packet) (rest : List Packet) (a1 a0 b1 b0 : Byte), Asks s p rest 0x21 [a1, a0, b1, b0] →
    s.loader.running = false →
      let foldPt := a1.toNat * 256 + a0.toNat
      let flatPt := b1.toNat * 256 + b0.toNat
      (foldPt < flatPt → flatPt ≤ 2048 → exec .gainPoints s = .next (answered
        { s with gain := { s.gain with foldPt := foldPt, flatPt := flatPt } } p rest .ok []))
      ∧ (flatPt ≤ foldPt ∨ 2048 < flatPt → exec .gainPoints s = .next (answered s p rest .range [])))
  ∧ (∀ (s : State) (p : Packet) (rest : List Packet) (code c w t : Byte), Asks s p rest 0x30 [code, c, w, t] →
    s.loader.running = false →
    (∀ d : Driver, d.code = code.toNat → 1 ≤ c.toNat → c.toNat ≤ 3 → w.toNat ≤ 3 → t.toNat ≤ 3 →
      exec .profileSet s = .next (answered
        { s with engine := { s.engine with profiles := s.engine.profiles.set d ⟨c.toNat, w.toNat, t.toNat⟩ } }
        p rest .ok []))
    ∧ (3 ≤ code.toNat ∨ c = 0 ∨ 3 < c.toNat ∨ 3 < w.toNat ∨ 3 < t.toNat →
      exec .profileSet s = .next (answered s p rest .range [])))

/-! ### Panel bus (chapter 7) -/

/-- A grant takes the head of the first queue that holds a run, in the cyclic order after the pointer; the pointer is
the granted driver, and the run goes to TURNAROUND when beats are owed since the last close by another driver, else to
WINDOW (R122, R123, R126). The start of a WINDOW, there and after TURNAROUND and RETRY, raises the attempt count,
latches the driver's profile and clears the hold count (R124, R127). An accepted window has told the driver its row,
its first and last column and the pixel count, its last beat has set the hold count to 0, and the run goes to DATA
(R127). That the four beats stand as one entry, made at acceptance, in a log of what the panel bus carried is the
model's choice (log 13, log 19). In WINDOW and DATA the select of the run's driver is driven, else none (R126 to
R129). A pair takes 1 beat in class 1, 2 + wait in class 2 and 3 + wait in class 3 (R124). Outside its phase no row
changes anything (log 2). -/
def Obligations.GrantsAndWindows : Prop :=
  let window := fun (e : Engine) (r : Run) =>
    { e with
      phase := .window, inTransfer := some { r with attempts := r.attempts + 1 }
      profileInUse := e.profiles.get r.driver, holdCount := 0 }
  (∀ (s : State) (d : Driver) (r : Run) (later : List Run), s.engine.phase = .idle →
    s.engine.queues.get d = r :: later →
    (d = s.engine.pointer.next
      ∨ (d = s.engine.pointer.next.next ∧ s.engine.queues.get s.engine.pointer.next = [])
      ∨ (d = s.engine.pointer ∧ s.engine.queues.get s.engine.pointer.next = []
        ∧ s.engine.queues.get s.engine.pointer.next.next = [])) →
    let granted := { s.engine with queues := s.engine.queues.set d later, pointer := d }
    let owed := match s.engine.lastClose with
      | none => 0
      | some c => if c.driver = d then 0 else 1 + c.turnaround - c.beatsSince
    (owed = 0 → exec .grant s = .next { s with engine := window granted r })
    ∧ (owed ≠ 0 → exec .grant s = .next
        { s with engine := { granted with phase := .turnaround owed, inTransfer := some r } }))
  ∧ (∀ (s : State) (r : Run) (owed : Nat), s.engine.inTransfer = some r →
    (s.engine.phase = .turnaround owed → exec .turnaroundDone s = .next { s with engine := window s.engine r })
    ∧ (s.engine.phase = .retry owed → exec .retryDone s = .next { s with engine := window s.engine r })
    ∧ (s.engine.phase = .window → exec .windowAccepted s = .next
        { s with
          engine := { s.engine with phase := .data, holdCount := 0 }
          outside := { s.outside with panelBus := s.outside.panelBus ++
            [.window r.driver r.row r.firstCol (r.firstCol + r.count - 1) r.count] } }))
  ∧ (∀ s : State,
    (s.engine.phase ≠ .idle ∨ s.engine.queues = ⟨[], [], []⟩ → exec .grant s = .next s)
    ∧ ((∀ owed, s.engine.phase ≠ .turnaround owed) → exec .turnaroundDone s = .next s)
    ∧ ((∀ owed, s.engine.phase ≠ .retry owed) → exec .retryDone s = .next s)
    ∧ (s.engine.phase ≠ .window → exec .windowAccepted s = .next s)
    ∧ (s.engine.phase ≠ .data → exec .runFinished s = .next s))
  ∧ (∀ e : Engine,
    (∀ r, e.phase = .window ∨ e.phase = .data → e.inTransfer = some r → e.selected = some r.driver)
    ∧ (e.phase ≠ .window → e.phase ≠ .data → e.selected = none))
  ∧ (∀ wait turnaround : Nat,
    Profile.beatsPerPair ⟨1, wait, turnaround⟩ = 1 ∧ Profile.beatsPerPair ⟨2, wait, turnaround⟩ = 2 + wait
      ∧ Profile.beatsPerPair ⟨3, wait, turnaround⟩ = 3 + wait)

/-- REJECT in WINDOW: after attempts 1 to 3 the run goes to RETRY for 1 + T beats and keeps the bus, after the fourth it
is dropped with DRIVER_REJECT; in any other phase it is ignored (R128, R129, R135). Whether HOLD is asserted on the same
beat is a free value: with it the hold count rises by 1, without it it is 0 (R127, log 27). A hold count of 2049 drops
the run in WINDOW and in DATA with DRIVER_STUCK; the pairs completed before stand in GRAM, fewer than all (R131). A drop
releases the references, sets the driver's fault flag, offers a FAULT record, sends a drop notice, and is the last close
(R132 to R134). REJECT and HOLD of a driver other than that of the run in transfer are ignored (R135); which driver's
line a row speaks of is the model's field (log 29). How a notice waits is the model's choice (log 15). That the hold
count stays at 2049 after a drop (log 22), and that the pairs completed are what the command names, kept below the run's
pairs (log 12), are the model's choices, as is the reading of GRAM from a log of transfers (log 13). -/
def Obligations.RejectAndHoldLimit : Prop :=
  ∀ s : State,
    (s.engine.phase ≠ .window → exec .reject s = .next s)
    ∧ (s.engine.phase ≠ .window → s.engine.phase ≠ .data → ∀ pairsDone, exec (.holdLimit pairsDone) s = .next s)
    ∧ ∀ r : Run, s.engine.inTransfer = some r →
    let dropped := fun (t : State) (code : FaultCode) (holdCount free : Nat) (outside : Outside) =>
      ReferencesReleased s t r
      ∧ t.engine = { s.engine with
          phase := .idle, inTransfer := none, holdCount := holdCount
          lastClose := some ⟨r.driver, s.engine.profileInUse.turnaround, 0⟩
          faultFlags := s.engine.faultFlags.set r.driver true }
      ∧ t.reports = s.reports.offer s.guard.tick (.fault code r.driver r.row s.posture.f)
      ∧ t.mapper = { s.mapper with notices := s.mapper.notices ++ [.drop r.driver] }
      ∧ t.outside = outside ∧ t.store = s.store ∧ t.posture = s.posture ∧ t.bus = s.bus
      ∧ t.emission = s.emission ∧ t.guard = s.guard ∧ t.control = s.control ∧ t.loader = s.loader
      ∧ t.freeIndex = free ∧ t.pending = s.pending
    (∀ d : Driver, s.outside.lineFrom = some d → d ≠ r.driver →
      exec .reject s = .next s ∧ ∀ pairsDone, exec (.holdLimit pairsDone) s = .next s)
    ∧ (s.outside.lineFrom = none ∨ s.outside.lineFrom = some r.driver →
      (s.engine.phase = .window → ∃ hold : Bool,
        let holdCount := if hold = true then min (s.engine.holdCount + 1) 2049 else 0
        (r.attempts < 4 → exec .reject s = .next
          { s with
            engine := { s.engine with
              phase := .retry (1 + s.engine.profileInUse.turnaround), holdCount := holdCount }
            freeIndex := s.freeIndex + 1 })
        ∧ (4 ≤ r.attempts → ∃ t : State, exec .reject s = .next t
          ∧ dropped t .driverReject holdCount (s.freeIndex + 1) s.outside))
      ∧ ∀ pairsDone : Nat,
        (s.engine.phase = .window → ∃ t : State, exec (.holdLimit pairsDone) s = .next t
          ∧ dropped t .driverStuck 2049 s.freeIndex s.outside)
        ∧ (s.engine.phase = .data → ∃ (t : State) (pixels : List Pixel), exec (.holdLimit pairsDone) s = .next t
          ∧ pixels.length = 2 * min pairsDone (r.count / 2 - 1)
          ∧ (∀ i < pixels.length, pixels[i]? = some (s.runPixel r i))
          ∧ dropped t .driverStuck 2049 s.freeIndex { s.outside with
              panelBus := s.outside.panelBus ++ [.pixels r.driver r.row r.firstCol pixels] }))

/-- A finished run's pixels stand in its driver's GRAM at its row and columns, and no other pixel of any GRAM changes:
the colour of a fill run; for a copy run the line slot's pixel at the source column of R90, black at the source width
and beyond, and for driver S each component scaled by the snapshot's gain of the destination column (R115, R116,
R129). The run releases its references and is the last close, the bus is IDLE, its last beat has set the hold count to
0, and nothing is reported (R129, R130). GRAM is read from the model's log of transfers (log 13). -/
def Obligations.RunFinishedWritesGram : Prop :=
  ∀ (s : State) (r : Run), s.engine.phase = .data → s.engine.inTransfer = some r → r.count % 2 = 0 →
    (r.source.snapshot?.isSome = true → r.firstCol + r.count ≤ 72) →
    let scaled := fun (gain : Nat) (x : BitVec 10) => BitVec.ofNat 10 (min 1023 ((x.toNat * gain + 512) / 1024))
    let pixel := fun (col : Nat) => match r.source with
      | .fill colour => colour
      | .copy slot srcCol mirror width snapshot =>
        let i := col - r.firstCol
        let source := if mirror = true then srcCol + r.count - 1 - i else srcCol + i
        let line := match s.intake.lines[slot] with
          | some l => l.pixels
          | none => []
        let p := if source < width then line.getD source Pixel.black else Pixel.black
        match snapshot with
        | none => p
        | some n =>
          let gain := s.gain.buffers[n].gains.toList.getD col 0
          ⟨scaled gain p.r, scaled gain p.g, scaled gain p.b⟩
    ∃ t : State, exec .runFinished s = .next t
      ∧ (∀ (d : Driver) (row col : Nat), gramAt t.outside.panelBus d row col =
          if d = r.driver ∧ row = r.row ∧ r.firstCol ≤ col ∧ col < r.firstCol + r.count then some (pixel col)
          else gramAt s.outside.panelBus d row col)
      ∧ ReferencesReleased s t r
      ∧ t.engine = { s.engine with
          phase := .idle, inTransfer := none, holdCount := 0
          lastClose := some ⟨r.driver, s.engine.profileInUse.turnaround, 0⟩ }
      ∧ t.outside = { s.outside with panelBus := t.outside.panelBus }
      ∧ t.store = s.store ∧ t.posture = s.posture ∧ t.bus = s.bus ∧ t.mapper = s.mapper
      ∧ t.emission = s.emission ∧ t.guard = s.guard ∧ t.control = s.control ∧ t.reports = s.reports
      ∧ t.loader = s.loader ∧ t.freeIndex = s.freeIndex ∧ t.pending = s.pending

/-- Every step keeps the references true: a line slot is free exactly when the mapper has finished with it and no
queued or transferring run references it, a snapshot's count is the number of runs that carry it, at most 9, and a run
makes at most 4 attempts (R67, R113, R121, R128). -/
def Obligations.EveryStepKeepsReferences : Prop :=
  ∀ s t : State, ReferencesLaw s → step s = .next t → ReferencesLaw t

/-- Every step keeps every run, waiting, queued or in transfer, and every fill inside its zone, with an even count of
2 to the zone's width, and the sweep cursor on a row of its item (R89, R94, R95, R96, R120). -/
def Obligations.EveryStepKeepsRunsInTheirZones : Prop :=
  ∀ s t : State, RunsLaw s → step s = .next t → RunsLaw t

/-! ### Emission (chapter 8) -/

/-- PERIOD_END, in the order of R141: each current level moves toward its effective target by the fade step and does
not pass it (R143, R145), each on-count is formed with the period in force (R142), a pending period becomes the period
(R148), and the counters are 0 (R140). Nothing else changes. -/
def Obligations.PeriodEndEffect : Prop :=
  ∀ s : State,
    let zone := fun (z : ZoneEmission) =>
      let target := if z.mode = .dark ∨ s.guard.state = .blank ∨ s.emission.latch = true then 0 else z.commanded
      let current := if z.current < target then min (z.current + s.emission.fadeStep) target
        else if target < z.current then max (z.current - s.emission.fadeStep) target
        else z.current
      { z with current := current, onCount := (current * s.emission.period + 511) / 1023, counter := 0 }
    exec .periodEnd s = .next { s with emission := { s.emission with
      zones := ⟨zone s.emission.zones.front, zone s.emission.zones.spine, zone s.emission.zones.back⟩
      period := match s.emission.pendingPeriod with
        | some period => period
        | none => s.emission.period
      pendingPeriod := none } }

/-- The on-count of a level of 0 to 1023 under a period P: floor((current × P + 511) / 1023), which is 0 at level 0
and P at level 1023, rises with the level, lies in 0 to P, and is within half a tick of current × P / 1023 (R142). -/
def Obligations.OnCountOfLevel : Prop :=
  ∀ level period : Nat, level ≤ 1023 →
    onCountOf level period = (level * period + 511) / 1023
    ∧ onCountOf 0 period = 0 ∧ onCountOf 1023 period = period ∧ onCountOf level period ≤ period
    ∧ (∀ lower ≤ level, onCountOf lower period ≤ onCountOf level period)
    ∧ 2 * (1023 * onCountOf level period) ≤ 2 * (level * period) + 1023
    ∧ 2 * (level * period) ≤ 2 * (1023 * onCountOf level period) + 1023

/-- EMIT_SET stores one zone's commanded level, at most 1023, or is RANGE for a zone code above 2 (R146); EMIT_PERIOD
stores the pending period, 64 to 4096 (R148); EMIT_FADE stores the step, 1 to 1023 (R147); each RESP carries the value
as stored. ESTOP becoming active with the latch clear sets the latch, sets every current level and on-count to 0 and
offers a FAULT record with code ESTOP; with the latch set it changes nothing but the pin (R149, R150). ESTOP becoming
inactive leaves the latch (R150). A zone's output is on while its period counter is less than its on-count and the
latch is clear (R140), so ESTOP turns every output off. That carrying the packet out and sending its RESP are one step
is the model's choice (log 3). -/
def Obligations.EmissionCommandsAndEstop : Prop :=
  (∀ (s : State) (p : Packet) (rest : List Packet) (code hi lo : Byte), Asks s p rest 0x40 [code, hi, lo] →
    s.loader.running = false →
    let level := min (hi.toNat * 256 + lo.toNat) 1023
    (∀ z : Zone, z.code = code.toNat → exec .emitSet s = .next (answered
      { s with emission := { s.emission with
        zones := s.emission.zones.set z { s.emission.zones.get z with commanded := level } } }
      p rest .ok [code, BitVec.ofNat 8 (level / 256), BitVec.ofNat 8 level]))
    ∧ (3 ≤ code.toNat → exec .emitSet s = .next (answered s p rest .range [])))
  ∧ (∀ (s : State) (p : Packet) (rest : List Packet) (hi lo : Byte), s.loader.running = false →
    let value := hi.toNat * 256 + lo.toNat
    let period := if value < 64 then 64 else if 4096 < value then 4096 else value
    let fadeStep := if value = 0 then 1 else if 1023 < value then 1023 else value
    (Asks s p rest 0x41 [hi, lo] → exec .emitPeriod s = .next (answered
      { s with emission := { s.emission with pendingPeriod := some period } }
      p rest .ok [BitVec.ofNat 8 (period / 256), BitVec.ofNat 8 period]))
    ∧ (Asks s p rest 0x42 [hi, lo] → exec .emitFade s = .next (answered
      { s with emission := { s.emission with fadeStep := fadeStep } }
      p rest .ok [BitVec.ofNat 8 (fadeStep / 256), BitVec.ofNat 8 fadeStep])))
  ∧ (∀ s : State,
    let stopped := fun (z : ZoneEmission) => { z with current := 0, onCount := 0 }
    (s.emission.latch = false → exec .estopAsserted s = .next
      { s with
        outside := { s.outside with estop := true }
        emission := { s.emission with
          latch := true
          zones := ⟨stopped s.emission.zones.front, stopped s.emission.zones.spine, stopped s.emission.zones.back⟩ }
        reports := s.reports.offer s.guard.tick (.fault .estop .front 0 s.posture.f) })
    ∧ (s.emission.latch = true →
      exec .estopAsserted s = .next { s with outside := { s.outside with estop := true } })
    ∧ exec .estopReleased s = .next { s with outside := { s.outside with estop := false } })
  ∧ (∀ (e : EmissionUnit) (z : Zone), e.output z = true ↔
    (e.zones.get z).counter < (e.zones.get z).onCount ∧ e.latch = false)
  ∧ (∀ s : State, ∃ t : State, exec .estopAsserted s = .next t ∧ ∀ z : Zone, t.emission.output z = false)

/-- Every step keeps the ranges of the emission unit, with the panel dark under the estop latch and the latch set
whenever ESTOP is active (R140 to R149), and the guard timer's law: stopped in BLANK and in LIVE with a hold code of
0, else running against the limit of the state and not past it (R156, R160). -/
def Obligations.EveryStepKeepsEmissionAndGuard : Prop :=
  ∀ s t : State, step s = .next t →
    (EmissionLaw s → EmissionLaw t) ∧ (GuardLaw s.guard → GuardLaw t.guard)

/-! ### Link guard (chapter 9) -/

/-- TICK raises the tick by 1, wrapping, and a running timer by 1 up to its limit (R155, R156); that a timer which
stands at its limit stays there is the model's choice (log 28). An expiry of a timer at its limit makes LIVE HOLD with
the timer at 0 against the blank limit, and HOLD BLANK with the timer stopped (R158); an FOPEN arrival restarts the
hold timer, from HOLD and BLANK with a change to LIVE (R157); each change offers a GUARD record and sends the mapper
the new state (R159). An expiry of a timer stopped or below its limit changes nothing (log 2). GUARD_SET stores both
codes, a blank code of 0 as 1, and restarts the running timer (R160). That carrying the packet out and sending its
RESP are one step is the model's choice (log 3). How a notice waits is the model's choice (log 15). -/
def Obligations.GuardAndTick : Prop :=
  ∀ s : State,
    let changed := fun (new : GuardState) (timer : Option GuardTimer) =>
      { s with
        guard := { s.guard with state := new, timer := timer }
        reports := s.reports.offer s.guard.tick (.guardChange new s.guard.state)
        mapper := { s.mapper with
          notices := s.mapper.notices ++ [.guardState new] } }
    let holdTimer := fun (code : Nat) => if code = 0 then none else some (GuardTimer.mk 0 (code * 16))
    (s.guard.timer = none → exec .tick s = .next { s with guard := { s.guard with tick := s.guard.tick + 1 } })
    ∧ (∀ timer, s.guard.timer = some timer → timer.count < timer.limit →
      exec .tick s = .next { s with guard := { s.guard with
        tick := s.guard.tick + 1, timer := some ⟨timer.count + 1, timer.limit⟩ } })
    ∧ (∀ timer, s.guard.timer = some timer → timer.count = timer.limit →
      exec .tick s = .next { s with guard := { s.guard with tick := s.guard.tick + 1 } })
    ∧ ((∀ timer, s.guard.timer = some timer → timer.count < timer.limit) → exec .guardTimerExpiry s = .next s)
    ∧ (∀ timer, s.guard.timer = some timer → timer.limit ≤ timer.count →
      (s.guard.state = .live →
        exec .guardTimerExpiry s = .next (changed .hold (some ⟨0, s.guard.blankCode * 64⟩)))
      ∧ (s.guard.state = .hold → exec .guardTimerExpiry s = .next (changed .blank none)))
    ∧ (s.guard.state = .live →
      s.fopenArrival = { s with guard := { s.guard with timer := holdTimer s.guard.holdCode } })
    ∧ (s.guard.state ≠ .live → s.fopenArrival = changed .live (holdTimer s.guard.holdCode))
    ∧ (∀ (p : Packet) (rest : List Packet) (h b : Byte), Asks s p rest 0x50 [h, b] → s.loader.running = false →
      let blank : Nat := if b = 0 then 1 else b.toNat
      exec .guardSet s = .next (answered
        { s with guard := { s.guard with
          holdCode := h.toNat, blankCode := blank
          timer := match s.guard.state with
            | .live => holdTimer h.toNat
            | .hold => some ⟨0, blank * 64⟩
            | .blank => none } } p rest .ok [h, if b = 0 then 1 else b]))

/-! ### Reports (chapter 11) -/

/-- An offered record is admitted at the tail with the tick's low 16 bits and the LOST flag when it fits in the 512
bytes, clearing LOST-pending, and is lost otherwise, setting it; in PULSE mode an admission of an enabled kind starts
a pulse of 1 µs (R173, R174, R178). REPORT_READ removes and returns the smaller of n (1 to 8) and the number held,
oldest first, or one NONE record from an empty queue, also while the loader is RUNNING (R176). ATTN_SET stores mask
and mode, or is RANGE; LEVEL ends a pulse; ATTN in LEVEL mode is high exactly while a record of an enabled kind is
held, and in PULSE mode during a pulse, which ends after its 1 µs (R177, R178). A record stands as its kind, its flags
with LOST in bit 7, its timestamp and its body, each of the six kinds laid out as 10.5 says (R172); that the bits of
the flags byte which a kind does not use are 0 is the model's choice (log 30). That carrying the packet out and
sending its RESP are one step is the model's choice (log 3). The nanosecond unit of the pulse is the model's (log 8),
and so is that PULSE set again keeps a pulse in progress (log 21). -/
def Obligations.ReportsAndAttention : Prop :=
  (∀ (q : Reports) (tick : BitVec 32) (b : ReportBody),
    (b.size ≤ 512 - q.occupancy → q.offer tick b =
      { q with
        records := q.records ++ [⟨b, q.lostPending, BitVec.ofNat 16 tick.toNat⟩], lostPending := false
        pulse := if q.attnMode = .pulse ∧ q.attnMask.getLsbD b.kind.code = true then some 1000 else q.pulse })
    ∧ (512 - q.occupancy < b.size → q.offer tick b = { q with lostPending := true }))
  ∧ (∀ (s : State) (p : Packet) (rest : List Packet) (n : Byte), Asks s p rest 0x60 [n] →
    let wanted := if n = 0 then 1 else if 8 < n.toNat then 8 else n.toNat
    (s.reports.records = [] → exec .reportRead s = .next (answered s p rest .ok
      [0, 0, BitVec.ofNat 8 (s.guard.tick.toNat / 256), BitVec.ofNat 8 s.guard.tick.toNat, 0, 0, 0, 0]))
    ∧ (s.reports.records ≠ [] → ∀ removed kept : List Record, s.reports.records = removed ++ kept →
      removed.length = min wanted s.reports.records.length →
      exec .reportRead s = .next (answered { s with reports := { s.reports with records := kept } } p rest .ok
        (removed.flatMap Record.bytes))))
  ∧ (∀ (s : State) (p : Packet) (rest : List Packet) (mask mode : Byte), Asks s p rest 0x61 [mask, mode] →
    s.loader.running = false →
    (mode = 0 → exec .attnSet s = .next (answered
      { s with reports := { s.reports with attnMask := mask &&& 0x7E, attnMode := .level, pulse := none } }
      p rest .ok []))
    ∧ (mode = 1 → exec .attnSet s = .next (answered
      { s with reports := { s.reports with attnMask := mask &&& 0x7E, attnMode := .pulse } } p rest .ok []))
    ∧ (1 < mode.toNat → exec .attnSet s = .next (answered s p rest .range [])))
  ∧ (∀ s : State, exec .attnPulseEnd s = .next { s with reports := { s.reports with pulse := none } })
  ∧ (∀ q : Reports,
    (q.attnMode = .level → (q.attn = true ↔ ∃ r ∈ q.records, q.attnMask.getLsbD r.body.kind.code = true))
    ∧ (q.attnMode = .pulse → (q.attn = true ↔ q.pulse ≠ none)))
  ∧ (∀ (lost : Bool) (stamp : Word16),
    let high := fun (n : Nat) => BitVec.ofNat 8 (n / 256)
    let low := fun (n : Nat) => BitVec.ofNat 8 n
    let bit := fun (b : Bool) (weight : Nat) => if b = true then weight else 0
    let record := fun (kind flags : Nat) (body : List Byte) =>
      [low kind, low (flags + bit lost 128), high stamp.toNat, low stamp.toNat] ++ body
    let bytes := fun (b : ReportBody) => Record.bytes ⟨b, lost, stamp⟩
    (∀ (new previous : Posture) (f : Nat) (initial face : Bool), bytes (.posture new previous f initial face) =
      record 1 (bit initial 1 + bit face 2) [low new.code, low previous.code, high f, low f])
    ∧ (∀ (slot : Fin 8) (p : Posture) (frame : Word16) (changed forced standalone short : Bool),
      bytes (.applied slot p frame changed forced standalone short) =
        record 2 (bit changed 1 + bit forced 2 + bit standalone 4 + bit short 8)
          [low slot.val, low p.code, high frame.toNat, low frame.toNat])
    ∧ (∀ new previous : GuardState, bytes (.guardChange new previous) =
      record 3 0 [low new.code, low previous.code, 0, 0])
    ∧ (∀ (frame anomalies : Word16) (accepted dropped : Nat) (first : Option Nat),
      let row := match first with
        | some row => row
        | none => 0
      bytes (.intake frame anomalies accepted dropped first) =
        record 4 (bit first.isSome 1) [high frame.toNat, low frame.toNat, high anomalies.toNat, low anomalies.toNat,
          high accepted, low accepted, high dropped, low dropped, high row, low row, 0, 0])
    ∧ (∀ (code : FaultCode) (driver : Driver) (row f : Nat), bytes (.fault code driver row f) =
      record 5 0 [low code.code, low driver.code, high row, low row, high f, low f, 0, 0, 0, 0, 0, 0])
    ∧ (∀ (outcome : LoadOutcome) (applied failed reached : Nat), bytes (.loader outcome applied failed reached) =
      record 6 0 [low outcome.code, 0, high applied, low applied, high failed, low failed, high reached, low reached,
        0, 0, 0, 0]))

/-! ### The laws at reset -/

/-- Every law that a step keeps holds in the reset state. The law of requests holds there because the slot already holds
the loader's first read, where R63's table says EMPTY (log 5), and the emission law because ESTOP starts inactive (log
6): the model's choices. -/
def Obligations.LawsHoldAtReset : Prop :=
  LayoutsLaw State.reset ∧ CapacityLaw State.reset ∧ SensingLaw State.reset ∧ RequestLaw State.reset
    ∧ AccountLaw State.reset ∧ ReferencesLaw State.reset ∧ RunsLaw State.reset ∧ EmissionLaw State.reset
    ∧ GuardLaw State.reset.guard
end

