-- ==== Sys2Proof/Laws/State.lean ====
section
/-! SUPPORT. One lemma for each field of State under each named update: what the update leaves unchanged, and what it
writes where that is one record. With them no proof unfolds an update of State. -/

namespace Sys2Proof.Machine

/-! ### `State.offer` -/

@[simp] theorem State.offer_store (s : State) (b : ReportBody) :
    (s.offer b).store = s.store := rfl

@[simp] theorem State.offer_posture (s : State) (b : ReportBody) :
    (s.offer b).posture = s.posture := rfl

@[simp] theorem State.offer_bus (s : State) (b : ReportBody) :
    (s.offer b).bus = s.bus := rfl

@[simp] theorem State.offer_intake (s : State) (b : ReportBody) :
    (s.offer b).intake = s.intake := rfl

@[simp] theorem State.offer_mapper (s : State) (b : ReportBody) :
    (s.offer b).mapper = s.mapper := rfl

@[simp] theorem State.offer_gain (s : State) (b : ReportBody) :
    (s.offer b).gain = s.gain := rfl

@[simp] theorem State.offer_engine (s : State) (b : ReportBody) :
    (s.offer b).engine = s.engine := rfl

@[simp] theorem State.offer_emission (s : State) (b : ReportBody) :
    (s.offer b).emission = s.emission := rfl

@[simp] theorem State.offer_guard (s : State) (b : ReportBody) :
    (s.offer b).guard = s.guard := rfl

@[simp] theorem State.offer_control (s : State) (b : ReportBody) :
    (s.offer b).control = s.control := rfl

@[simp] theorem State.offer_reports (s : State) (b : ReportBody) :
    (s.offer b).reports = s.reports.offer s.guard.tick b := rfl

@[simp] theorem State.offer_loader (s : State) (b : ReportBody) :
    (s.offer b).loader = s.loader := rfl

@[simp] theorem State.offer_outside (s : State) (b : ReportBody) :
    (s.offer b).outside = s.outside := rfl

@[simp] theorem State.offer_freeIndex (s : State) (b : ReportBody) :
    (s.offer b).freeIndex = s.freeIndex := rfl

@[simp] theorem State.offer_pending (s : State) (b : ReportBody) :
    (s.offer b).pending = s.pending := rfl

/-! ### `State.notify` -/

@[simp] theorem State.notify_store (s : State) (n : Notice) :
    (s.notify n).store = s.store := rfl

@[simp] theorem State.notify_posture (s : State) (n : Notice) :
    (s.notify n).posture = s.posture := rfl

@[simp] theorem State.notify_bus (s : State) (n : Notice) :
    (s.notify n).bus = s.bus := rfl

@[simp] theorem State.notify_intake (s : State) (n : Notice) :
    (s.notify n).intake = s.intake := rfl

@[simp] theorem State.notify_mapper (s : State) (n : Notice) :
    (s.notify n).mapper = { s.mapper with notices := s.mapper.notices ++ [n] } := rfl

@[simp] theorem State.notify_gain (s : State) (n : Notice) :
    (s.notify n).gain = s.gain := rfl

@[simp] theorem State.notify_engine (s : State) (n : Notice) :
    (s.notify n).engine = s.engine := rfl

@[simp] theorem State.notify_emission (s : State) (n : Notice) :
    (s.notify n).emission = s.emission := rfl

@[simp] theorem State.notify_guard (s : State) (n : Notice) :
    (s.notify n).guard = s.guard := rfl

@[simp] theorem State.notify_control (s : State) (n : Notice) :
    (s.notify n).control = s.control := rfl

@[simp] theorem State.notify_reports (s : State) (n : Notice) :
    (s.notify n).reports = s.reports := rfl

@[simp] theorem State.notify_loader (s : State) (n : Notice) :
    (s.notify n).loader = s.loader := rfl

@[simp] theorem State.notify_outside (s : State) (n : Notice) :
    (s.notify n).outside = s.outside := rfl

@[simp] theorem State.notify_freeIndex (s : State) (n : Notice) :
    (s.notify n).freeIndex = s.freeIndex := rfl

@[simp] theorem State.notify_pending (s : State) (n : Notice) :
    (s.notify n).pending = s.pending := rfl

/-! ### `State.request` -/

@[simp] theorem State.request_store (s : State) (r : Request) :
    (s.request r).store = s.store := rfl

@[simp] theorem State.request_posture (s : State) (r : Request) :
    (s.request r).posture = s.posture := rfl

@[simp] theorem State.request_bus (s : State) (r : Request) :
    (s.request r).bus = s.bus.request r := rfl

@[simp] theorem State.request_intake (s : State) (r : Request) :
    (s.request r).intake = s.intake := rfl

@[simp] theorem State.request_mapper (s : State) (r : Request) :
    (s.request r).mapper = s.mapper := rfl

@[simp] theorem State.request_gain (s : State) (r : Request) :
    (s.request r).gain = s.gain := rfl

@[simp] theorem State.request_engine (s : State) (r : Request) :
    (s.request r).engine = s.engine := rfl

@[simp] theorem State.request_emission (s : State) (r : Request) :
    (s.request r).emission = s.emission := rfl

@[simp] theorem State.request_guard (s : State) (r : Request) :
    (s.request r).guard = s.guard := rfl

@[simp] theorem State.request_control (s : State) (r : Request) :
    (s.request r).control = s.control := rfl

@[simp] theorem State.request_reports (s : State) (r : Request) :
    (s.request r).reports = s.reports := rfl

@[simp] theorem State.request_loader (s : State) (r : Request) :
    (s.request r).loader = s.loader := rfl

@[simp] theorem State.request_outside (s : State) (r : Request) :
    (s.request r).outside = s.outside := rfl

@[simp] theorem State.request_freeIndex (s : State) (r : Request) :
    (s.request r).freeIndex = s.freeIndex := rfl

@[simp] theorem State.request_pending (s : State) (r : Request) :
    (s.request r).pending = s.pending := rfl

/-! ### `State.respond` -/

@[simp] theorem State.respond_store (s : State) (status : Status) (data : List Byte) :
    (s.respond status data).store = s.store := by
  unfold State.respond; split <;> rfl

@[simp] theorem State.respond_posture (s : State) (status : Status) (data : List Byte) :
    (s.respond status data).posture = s.posture := by
  unfold State.respond; split <;> rfl

@[simp] theorem State.respond_bus (s : State) (status : Status) (data : List Byte) :
    (s.respond status data).bus = s.bus := by
  unfold State.respond; split <;> rfl

@[simp] theorem State.respond_intake (s : State) (status : Status) (data : List Byte) :
    (s.respond status data).intake = s.intake := by
  unfold State.respond; split <;> rfl

@[simp] theorem State.respond_mapper (s : State) (status : Status) (data : List Byte) :
    (s.respond status data).mapper = s.mapper := by
  unfold State.respond; split <;> rfl

@[simp] theorem State.respond_gain (s : State) (status : Status) (data : List Byte) :
    (s.respond status data).gain = s.gain := by
  unfold State.respond; split <;> rfl

@[simp] theorem State.respond_engine (s : State) (status : Status) (data : List Byte) :
    (s.respond status data).engine = s.engine := by
  unfold State.respond; split <;> rfl

@[simp] theorem State.respond_emission (s : State) (status : Status) (data : List Byte) :
    (s.respond status data).emission = s.emission := by
  unfold State.respond; split <;> rfl

@[simp] theorem State.respond_guard (s : State) (status : Status) (data : List Byte) :
    (s.respond status data).guard = s.guard := by
  unfold State.respond; split <;> rfl

@[simp] theorem State.respond_reports (s : State) (status : Status) (data : List Byte) :
    (s.respond status data).reports = s.reports := by
  unfold State.respond; split <;> rfl

@[simp] theorem State.respond_loader (s : State) (status : Status) (data : List Byte) :
    (s.respond status data).loader = s.loader := by
  unfold State.respond; split <;> rfl

@[simp] theorem State.respond_freeIndex (s : State) (status : Status) (data : List Byte) :
    (s.respond status data).freeIndex = s.freeIndex := by
  unfold State.respond; split <;> rfl

@[simp] theorem State.respond_pending (s : State) (status : Status) (data : List Byte) :
    (s.respond status data).pending = s.pending := by
  unfold State.respond; split <;> rfl

/-! ### `State.send` -/

@[simp] theorem State.send_store (s : State) (t : PanelTransfer) :
    (s.send t).store = s.store := rfl

@[simp] theorem State.send_posture (s : State) (t : PanelTransfer) :
    (s.send t).posture = s.posture := rfl

@[simp] theorem State.send_bus (s : State) (t : PanelTransfer) :
    (s.send t).bus = s.bus := rfl

@[simp] theorem State.send_intake (s : State) (t : PanelTransfer) :
    (s.send t).intake = s.intake := rfl

@[simp] theorem State.send_mapper (s : State) (t : PanelTransfer) :
    (s.send t).mapper = s.mapper := rfl

@[simp] theorem State.send_gain (s : State) (t : PanelTransfer) :
    (s.send t).gain = s.gain := rfl

@[simp] theorem State.send_engine (s : State) (t : PanelTransfer) :
    (s.send t).engine = s.engine := rfl

@[simp] theorem State.send_emission (s : State) (t : PanelTransfer) :
    (s.send t).emission = s.emission := rfl

@[simp] theorem State.send_guard (s : State) (t : PanelTransfer) :
    (s.send t).guard = s.guard := rfl

@[simp] theorem State.send_control (s : State) (t : PanelTransfer) :
    (s.send t).control = s.control := rfl

@[simp] theorem State.send_reports (s : State) (t : PanelTransfer) :
    (s.send t).reports = s.reports := rfl

@[simp] theorem State.send_loader (s : State) (t : PanelTransfer) :
    (s.send t).loader = s.loader := rfl

@[simp] theorem State.send_outside (s : State) (t : PanelTransfer) :
    (s.send t).outside = { s.outside with panelBus := s.outside.panelBus ++ [t] } := rfl

@[simp] theorem State.send_freeIndex (s : State) (t : PanelTransfer) :
    (s.send t).freeIndex = s.freeIndex := rfl

@[simp] theorem State.send_pending (s : State) (t : PanelTransfer) :
    (s.send t).pending = s.pending := rfl

/-! ### `State.takeItem` -/

@[simp] theorem State.takeItem_store (s : State) (rest : List IntakeItem) :
    (s.takeItem rest).store = s.store := rfl

@[simp] theorem State.takeItem_posture (s : State) (rest : List IntakeItem) :
    (s.takeItem rest).posture = s.posture := rfl

@[simp] theorem State.takeItem_bus (s : State) (rest : List IntakeItem) :
    (s.takeItem rest).bus = s.bus := rfl

@[simp] theorem State.takeItem_intake (s : State) (rest : List IntakeItem) :
    (s.takeItem rest).intake = { s.intake with queue := rest } := rfl

@[simp] theorem State.takeItem_mapper (s : State) (rest : List IntakeItem) :
    (s.takeItem rest).mapper = s.mapper := rfl

@[simp] theorem State.takeItem_gain (s : State) (rest : List IntakeItem) :
    (s.takeItem rest).gain = s.gain := rfl

@[simp] theorem State.takeItem_engine (s : State) (rest : List IntakeItem) :
    (s.takeItem rest).engine = s.engine := rfl

@[simp] theorem State.takeItem_emission (s : State) (rest : List IntakeItem) :
    (s.takeItem rest).emission = s.emission := rfl

@[simp] theorem State.takeItem_guard (s : State) (rest : List IntakeItem) :
    (s.takeItem rest).guard = s.guard := rfl

@[simp] theorem State.takeItem_control (s : State) (rest : List IntakeItem) :
    (s.takeItem rest).control = s.control := rfl

@[simp] theorem State.takeItem_reports (s : State) (rest : List IntakeItem) :
    (s.takeItem rest).reports = s.reports := rfl

@[simp] theorem State.takeItem_loader (s : State) (rest : List IntakeItem) :
    (s.takeItem rest).loader = s.loader := rfl

@[simp] theorem State.takeItem_outside (s : State) (rest : List IntakeItem) :
    (s.takeItem rest).outside = s.outside := rfl

@[simp] theorem State.takeItem_freeIndex (s : State) (rest : List IntakeItem) :
    (s.takeItem rest).freeIndex = s.freeIndex := rfl

@[simp] theorem State.takeItem_pending (s : State) (rest : List IntakeItem) :
    (s.takeItem rest).pending = s.pending := rfl

/-! ### `State.writeSlot` -/

@[simp] theorem State.writeSlot_store (s : State) (n : Fin 8) (slot : Slot) :
    (s.writeSlot n slot).store = { s.store with slots := s.store.slots.set n slot } := rfl

@[simp] theorem State.writeSlot_posture (s : State) (n : Fin 8) (slot : Slot) :
    (s.writeSlot n slot).posture = s.posture := rfl

@[simp] theorem State.writeSlot_bus (s : State) (n : Fin 8) (slot : Slot) :
    (s.writeSlot n slot).bus = s.bus := rfl

@[simp] theorem State.writeSlot_intake (s : State) (n : Fin 8) (slot : Slot) :
    (s.writeSlot n slot).intake = s.intake := rfl

@[simp] theorem State.writeSlot_mapper (s : State) (n : Fin 8) (slot : Slot) :
    (s.writeSlot n slot).mapper = s.mapper := rfl

@[simp] theorem State.writeSlot_gain (s : State) (n : Fin 8) (slot : Slot) :
    (s.writeSlot n slot).gain = s.gain := rfl

@[simp] theorem State.writeSlot_engine (s : State) (n : Fin 8) (slot : Slot) :
    (s.writeSlot n slot).engine = s.engine := rfl

@[simp] theorem State.writeSlot_emission (s : State) (n : Fin 8) (slot : Slot) :
    (s.writeSlot n slot).emission = s.emission := rfl

@[simp] theorem State.writeSlot_guard (s : State) (n : Fin 8) (slot : Slot) :
    (s.writeSlot n slot).guard = s.guard := rfl

@[simp] theorem State.writeSlot_control (s : State) (n : Fin 8) (slot : Slot) :
    (s.writeSlot n slot).control = s.control := rfl

@[simp] theorem State.writeSlot_reports (s : State) (n : Fin 8) (slot : Slot) :
    (s.writeSlot n slot).reports = s.reports := rfl

@[simp] theorem State.writeSlot_loader (s : State) (n : Fin 8) (slot : Slot) :
    (s.writeSlot n slot).loader = s.loader := rfl

@[simp] theorem State.writeSlot_outside (s : State) (n : Fin 8) (slot : Slot) :
    (s.writeSlot n slot).outside = s.outside := rfl

@[simp] theorem State.writeSlot_freeIndex (s : State) (n : Fin 8) (slot : Slot) :
    (s.writeSlot n slot).freeIndex = s.freeIndex := rfl

@[simp] theorem State.writeSlot_pending (s : State) (n : Fin 8) (slot : Slot) :
    (s.writeSlot n slot).pending = s.pending := rfl

/-! ### `State.storeProfile` -/

@[simp] theorem State.storeProfile_store (s : State) (d : Driver) (p : Profile) :
    (s.storeProfile d p).store = s.store := rfl

@[simp] theorem State.storeProfile_posture (s : State) (d : Driver) (p : Profile) :
    (s.storeProfile d p).posture = s.posture := rfl

@[simp] theorem State.storeProfile_bus (s : State) (d : Driver) (p : Profile) :
    (s.storeProfile d p).bus = s.bus := rfl

@[simp] theorem State.storeProfile_intake (s : State) (d : Driver) (p : Profile) :
    (s.storeProfile d p).intake = s.intake := rfl

@[simp] theorem State.storeProfile_mapper (s : State) (d : Driver) (p : Profile) :
    (s.storeProfile d p).mapper = s.mapper := rfl

@[simp] theorem State.storeProfile_gain (s : State) (d : Driver) (p : Profile) :
    (s.storeProfile d p).gain = s.gain := rfl

@[simp] theorem State.storeProfile_engine (s : State) (d : Driver) (p : Profile) :
    (s.storeProfile d p).engine = { s.engine with profiles := s.engine.profiles.set d p } := rfl

@[simp] theorem State.storeProfile_emission (s : State) (d : Driver) (p : Profile) :
    (s.storeProfile d p).emission = s.emission := rfl

@[simp] theorem State.storeProfile_guard (s : State) (d : Driver) (p : Profile) :
    (s.storeProfile d p).guard = s.guard := rfl

@[simp] theorem State.storeProfile_control (s : State) (d : Driver) (p : Profile) :
    (s.storeProfile d p).control = s.control := rfl

@[simp] theorem State.storeProfile_reports (s : State) (d : Driver) (p : Profile) :
    (s.storeProfile d p).reports = s.reports := rfl

@[simp] theorem State.storeProfile_loader (s : State) (d : Driver) (p : Profile) :
    (s.storeProfile d p).loader = s.loader := rfl

@[simp] theorem State.storeProfile_outside (s : State) (d : Driver) (p : Profile) :
    (s.storeProfile d p).outside = s.outside := rfl

@[simp] theorem State.storeProfile_freeIndex (s : State) (d : Driver) (p : Profile) :
    (s.storeProfile d p).freeIndex = s.freeIndex := rfl

@[simp] theorem State.storeProfile_pending (s : State) (d : Driver) (p : Profile) :
    (s.storeProfile d p).pending = s.pending := rfl

/-! ### `State.endTransaction` -/

@[simp] theorem State.endTransaction_store (s : State) (bytes : List Byte) (a : BusAfter) :
    (s.endTransaction bytes a).store = s.store := rfl

@[simp] theorem State.endTransaction_posture (s : State) (bytes : List Byte) (a : BusAfter) :
    (s.endTransaction bytes a).posture = s.posture := rfl

@[simp] theorem State.endTransaction_bus (s : State) (bytes : List Byte) (a : BusAfter) :
    (s.endTransaction bytes a).bus = { s.bus.emptySlot with
      state := a.state, linesHigh := a.linesHigh, received := bytes } := rfl

@[simp] theorem State.endTransaction_intake (s : State) (bytes : List Byte) (a : BusAfter) :
    (s.endTransaction bytes a).intake = s.intake := rfl

@[simp] theorem State.endTransaction_mapper (s : State) (bytes : List Byte) (a : BusAfter) :
    (s.endTransaction bytes a).mapper = s.mapper := rfl

@[simp] theorem State.endTransaction_gain (s : State) (bytes : List Byte) (a : BusAfter) :
    (s.endTransaction bytes a).gain = s.gain := rfl

@[simp] theorem State.endTransaction_engine (s : State) (bytes : List Byte) (a : BusAfter) :
    (s.endTransaction bytes a).engine = s.engine := rfl

@[simp] theorem State.endTransaction_emission (s : State) (bytes : List Byte) (a : BusAfter) :
    (s.endTransaction bytes a).emission = s.emission := rfl

@[simp] theorem State.endTransaction_guard (s : State) (bytes : List Byte) (a : BusAfter) :
    (s.endTransaction bytes a).guard = s.guard := rfl

@[simp] theorem State.endTransaction_control (s : State) (bytes : List Byte) (a : BusAfter) :
    (s.endTransaction bytes a).control = s.control := rfl

@[simp] theorem State.endTransaction_reports (s : State) (bytes : List Byte) (a : BusAfter) :
    (s.endTransaction bytes a).reports = s.reports := rfl

@[simp] theorem State.endTransaction_loader (s : State) (bytes : List Byte) (a : BusAfter) :
    (s.endTransaction bytes a).loader = s.loader := rfl

@[simp] theorem State.endTransaction_outside (s : State) (bytes : List Byte) (a : BusAfter) :
    (s.endTransaction bytes a).outside = s.outside := rfl

@[simp] theorem State.endTransaction_freeIndex (s : State) (bytes : List Byte) (a : BusAfter) :
    (s.endTransaction bytes a).freeIndex = s.freeIndex := rfl

@[simp] theorem State.endTransaction_pending (s : State) (bytes : List Byte) (a : BusAfter) :
    (s.endTransaction bytes a).pending = s.pending := rfl

/-! ### `State.sendOnBus` -/

@[simp] theorem State.sendOnBus_store (s : State) (l : List BusSymbol) :
    (s.sendOnBus l).store = s.store := rfl

@[simp] theorem State.sendOnBus_posture (s : State) (l : List BusSymbol) :
    (s.sendOnBus l).posture = s.posture := rfl

@[simp] theorem State.sendOnBus_bus (s : State) (l : List BusSymbol) :
    (s.sendOnBus l).bus = s.bus := rfl

@[simp] theorem State.sendOnBus_intake (s : State) (l : List BusSymbol) :
    (s.sendOnBus l).intake = s.intake := rfl

@[simp] theorem State.sendOnBus_mapper (s : State) (l : List BusSymbol) :
    (s.sendOnBus l).mapper = s.mapper := rfl

@[simp] theorem State.sendOnBus_gain (s : State) (l : List BusSymbol) :
    (s.sendOnBus l).gain = s.gain := rfl

@[simp] theorem State.sendOnBus_engine (s : State) (l : List BusSymbol) :
    (s.sendOnBus l).engine = s.engine := rfl

@[simp] theorem State.sendOnBus_emission (s : State) (l : List BusSymbol) :
    (s.sendOnBus l).emission = s.emission := rfl

@[simp] theorem State.sendOnBus_guard (s : State) (l : List BusSymbol) :
    (s.sendOnBus l).guard = s.guard := rfl

@[simp] theorem State.sendOnBus_control (s : State) (l : List BusSymbol) :
    (s.sendOnBus l).control = s.control := rfl

@[simp] theorem State.sendOnBus_reports (s : State) (l : List BusSymbol) :
    (s.sendOnBus l).reports = s.reports := rfl

@[simp] theorem State.sendOnBus_loader (s : State) (l : List BusSymbol) :
    (s.sendOnBus l).loader = s.loader := rfl

@[simp] theorem State.sendOnBus_outside (s : State) (l : List BusSymbol) :
    (s.sendOnBus l).outside = { s.outside with sideBus := s.outside.sideBus ++ l } := rfl

@[simp] theorem State.sendOnBus_freeIndex (s : State) (l : List BusSymbol) :
    (s.sendOnBus l).freeIndex = s.freeIndex := rfl

@[simp] theorem State.sendOnBus_pending (s : State) (l : List BusSymbol) :
    (s.sendOnBus l).pending = s.pending := rfl

/-! ### `State.breakOff` -/

@[simp] theorem State.breakOff_store (s : State) (f : Nat → List BusSymbol) :
    (s.breakOff f).store = s.store := rfl

@[simp] theorem State.breakOff_posture (s : State) (f : Nat → List BusSymbol) :
    (s.breakOff f).posture = s.posture := rfl

@[simp] theorem State.breakOff_bus (s : State) (f : Nat → List BusSymbol) :
    (s.breakOff f).bus = s.bus := rfl

@[simp] theorem State.breakOff_intake (s : State) (f : Nat → List BusSymbol) :
    (s.breakOff f).intake = s.intake := rfl

@[simp] theorem State.breakOff_mapper (s : State) (f : Nat → List BusSymbol) :
    (s.breakOff f).mapper = s.mapper := rfl

@[simp] theorem State.breakOff_gain (s : State) (f : Nat → List BusSymbol) :
    (s.breakOff f).gain = s.gain := rfl

@[simp] theorem State.breakOff_engine (s : State) (f : Nat → List BusSymbol) :
    (s.breakOff f).engine = s.engine := rfl

@[simp] theorem State.breakOff_emission (s : State) (f : Nat → List BusSymbol) :
    (s.breakOff f).emission = s.emission := rfl

@[simp] theorem State.breakOff_guard (s : State) (f : Nat → List BusSymbol) :
    (s.breakOff f).guard = s.guard := rfl

@[simp] theorem State.breakOff_control (s : State) (f : Nat → List BusSymbol) :
    (s.breakOff f).control = s.control := rfl

@[simp] theorem State.breakOff_reports (s : State) (f : Nat → List BusSymbol) :
    (s.breakOff f).reports = s.reports := rfl

@[simp] theorem State.breakOff_loader (s : State) (f : Nat → List BusSymbol) :
    (s.breakOff f).loader = s.loader := rfl

@[simp] theorem State.breakOff_outside (s : State) (f : Nat → List BusSymbol) :
    (s.breakOff f).outside = { s.outside with
      sideBus := s.outside.sideBus ++ f (Config.symbolsSent s.freeIndex) } := rfl

@[simp] theorem State.breakOff_freeIndex (s : State) (f : Nat → List BusSymbol) :
    (s.breakOff f).freeIndex = s.freeIndex + 1 := rfl

@[simp] theorem State.breakOff_pending (s : State) (f : Nat → List BusSymbol) :
    (s.breakOff f).pending = s.pending := rfl

/-! ### `State.moveCursor` -/

@[simp] theorem State.moveCursor_store (s : State) (a : Nat) :
    (s.moveCursor a).store = s.store := rfl

@[simp] theorem State.moveCursor_posture (s : State) (a : Nat) :
    (s.moveCursor a).posture = s.posture := rfl

@[simp] theorem State.moveCursor_bus (s : State) (a : Nat) :
    (s.moveCursor a).bus = s.bus := rfl

@[simp] theorem State.moveCursor_intake (s : State) (a : Nat) :
    (s.moveCursor a).intake = s.intake := rfl

@[simp] theorem State.moveCursor_mapper (s : State) (a : Nat) :
    (s.moveCursor a).mapper = s.mapper := rfl

@[simp] theorem State.moveCursor_gain (s : State) (a : Nat) :
    (s.moveCursor a).gain = s.gain := rfl

@[simp] theorem State.moveCursor_engine (s : State) (a : Nat) :
    (s.moveCursor a).engine = s.engine := rfl

@[simp] theorem State.moveCursor_emission (s : State) (a : Nat) :
    (s.moveCursor a).emission = s.emission := rfl

@[simp] theorem State.moveCursor_guard (s : State) (a : Nat) :
    (s.moveCursor a).guard = s.guard := rfl

@[simp] theorem State.moveCursor_control (s : State) (a : Nat) :
    (s.moveCursor a).control = s.control := rfl

@[simp] theorem State.moveCursor_reports (s : State) (a : Nat) :
    (s.moveCursor a).reports = s.reports := rfl

@[simp] theorem State.moveCursor_loader (s : State) (a : Nat) :
    (s.moveCursor a).loader = { s.loader with cursor := storedAddress s.freeIndex a } := rfl

@[simp] theorem State.moveCursor_outside (s : State) (a : Nat) :
    (s.moveCursor a).outside = s.outside := rfl

@[simp] theorem State.moveCursor_freeIndex (s : State) (a : Nat) :
    (s.moveCursor a).freeIndex = if a ≤ 65535 then s.freeIndex else s.freeIndex + 1 := rfl

@[simp] theorem State.moveCursor_pending (s : State) (a : Nat) :
    (s.moveCursor a).pending = s.pending := rfl

/-! ### `State.changeRunRefs` -/

@[simp] theorem State.changeRunRefs_store (s : State) (r : Run) (f : Intake → Fin 32 → Intake) (g : GainUnit → Fin 2 → GainUnit) :
    (s.changeRunRefs r f g).store = s.store := rfl

@[simp] theorem State.changeRunRefs_posture (s : State) (r : Run) (f : Intake → Fin 32 → Intake) (g : GainUnit → Fin 2 → GainUnit) :
    (s.changeRunRefs r f g).posture = s.posture := rfl

@[simp] theorem State.changeRunRefs_bus (s : State) (r : Run) (f : Intake → Fin 32 → Intake) (g : GainUnit → Fin 2 → GainUnit) :
    (s.changeRunRefs r f g).bus = s.bus := rfl

@[simp] theorem State.changeRunRefs_mapper (s : State) (r : Run) (f : Intake → Fin 32 → Intake) (g : GainUnit → Fin 2 → GainUnit) :
    (s.changeRunRefs r f g).mapper = s.mapper := rfl

@[simp] theorem State.changeRunRefs_engine (s : State) (r : Run) (f : Intake → Fin 32 → Intake) (g : GainUnit → Fin 2 → GainUnit) :
    (s.changeRunRefs r f g).engine = s.engine := rfl

@[simp] theorem State.changeRunRefs_emission (s : State) (r : Run) (f : Intake → Fin 32 → Intake) (g : GainUnit → Fin 2 → GainUnit) :
    (s.changeRunRefs r f g).emission = s.emission := rfl

@[simp] theorem State.changeRunRefs_guard (s : State) (r : Run) (f : Intake → Fin 32 → Intake) (g : GainUnit → Fin 2 → GainUnit) :
    (s.changeRunRefs r f g).guard = s.guard := rfl

@[simp] theorem State.changeRunRefs_control (s : State) (r : Run) (f : Intake → Fin 32 → Intake) (g : GainUnit → Fin 2 → GainUnit) :
    (s.changeRunRefs r f g).control = s.control := rfl

@[simp] theorem State.changeRunRefs_reports (s : State) (r : Run) (f : Intake → Fin 32 → Intake) (g : GainUnit → Fin 2 → GainUnit) :
    (s.changeRunRefs r f g).reports = s.reports := rfl

@[simp] theorem State.changeRunRefs_loader (s : State) (r : Run) (f : Intake → Fin 32 → Intake) (g : GainUnit → Fin 2 → GainUnit) :
    (s.changeRunRefs r f g).loader = s.loader := rfl

@[simp] theorem State.changeRunRefs_outside (s : State) (r : Run) (f : Intake → Fin 32 → Intake) (g : GainUnit → Fin 2 → GainUnit) :
    (s.changeRunRefs r f g).outside = s.outside := rfl

@[simp] theorem State.changeRunRefs_freeIndex (s : State) (r : Run) (f : Intake → Fin 32 → Intake) (g : GainUnit → Fin 2 → GainUnit) :
    (s.changeRunRefs r f g).freeIndex = s.freeIndex := rfl

@[simp] theorem State.changeRunRefs_pending (s : State) (r : Run) (f : Intake → Fin 32 → Intake) (g : GainUnit → Fin 2 → GainUnit) :
    (s.changeRunRefs r f g).pending = s.pending := rfl

/-! ### `State.placeRun` -/

@[simp] theorem State.placeRun_store (s : State) (r : Run) :
    (s.placeRun r).store = s.store := rfl

@[simp] theorem State.placeRun_posture (s : State) (r : Run) :
    (s.placeRun r).posture = s.posture := rfl

@[simp] theorem State.placeRun_bus (s : State) (r : Run) :
    (s.placeRun r).bus = s.bus := rfl

@[simp] theorem State.placeRun_mapper (s : State) (r : Run) :
    (s.placeRun r).mapper = s.mapper := rfl

@[simp] theorem State.placeRun_engine (s : State) (r : Run) :
    (s.placeRun r).engine = { s.engine with queues := s.engine.queues.set r.driver (s.engine.queues.get r.driver ++ [r]) } := rfl

@[simp] theorem State.placeRun_emission (s : State) (r : Run) :
    (s.placeRun r).emission = s.emission := rfl

@[simp] theorem State.placeRun_guard (s : State) (r : Run) :
    (s.placeRun r).guard = s.guard := rfl

@[simp] theorem State.placeRun_control (s : State) (r : Run) :
    (s.placeRun r).control = s.control := rfl

@[simp] theorem State.placeRun_reports (s : State) (r : Run) :
    (s.placeRun r).reports = s.reports := rfl

@[simp] theorem State.placeRun_loader (s : State) (r : Run) :
    (s.placeRun r).loader = s.loader := rfl

@[simp] theorem State.placeRun_outside (s : State) (r : Run) :
    (s.placeRun r).outside = s.outside := rfl

@[simp] theorem State.placeRun_freeIndex (s : State) (r : Run) :
    (s.placeRun r).freeIndex = s.freeIndex := rfl

@[simp] theorem State.placeRun_pending (s : State) (r : Run) :
    (s.placeRun r).pending = s.pending := rfl

/-! ### `State.releaseRunRefs` -/

@[simp] theorem State.releaseRunRefs_store (s : State) (r : Run) :
    (s.releaseRunRefs r).store = s.store := rfl

@[simp] theorem State.releaseRunRefs_posture (s : State) (r : Run) :
    (s.releaseRunRefs r).posture = s.posture := rfl

@[simp] theorem State.releaseRunRefs_bus (s : State) (r : Run) :
    (s.releaseRunRefs r).bus = s.bus := rfl

@[simp] theorem State.releaseRunRefs_mapper (s : State) (r : Run) :
    (s.releaseRunRefs r).mapper = s.mapper := rfl

@[simp] theorem State.releaseRunRefs_engine (s : State) (r : Run) :
    (s.releaseRunRefs r).engine = s.engine := rfl

@[simp] theorem State.releaseRunRefs_emission (s : State) (r : Run) :
    (s.releaseRunRefs r).emission = s.emission := rfl

@[simp] theorem State.releaseRunRefs_guard (s : State) (r : Run) :
    (s.releaseRunRefs r).guard = s.guard := rfl

@[simp] theorem State.releaseRunRefs_control (s : State) (r : Run) :
    (s.releaseRunRefs r).control = s.control := rfl

@[simp] theorem State.releaseRunRefs_reports (s : State) (r : Run) :
    (s.releaseRunRefs r).reports = s.reports := rfl

@[simp] theorem State.releaseRunRefs_loader (s : State) (r : Run) :
    (s.releaseRunRefs r).loader = s.loader := rfl

@[simp] theorem State.releaseRunRefs_outside (s : State) (r : Run) :
    (s.releaseRunRefs r).outside = s.outside := rfl

@[simp] theorem State.releaseRunRefs_freeIndex (s : State) (r : Run) :
    (s.releaseRunRefs r).freeIndex = s.freeIndex := rfl

@[simp] theorem State.releaseRunRefs_pending (s : State) (r : Run) :
    (s.releaseRunRefs r).pending = s.pending := rfl

/-! ### `State.closeRun` -/

@[simp] theorem State.closeRun_store (s : State) (r : Run) :
    (s.closeRun r).store = s.store := rfl

@[simp] theorem State.closeRun_posture (s : State) (r : Run) :
    (s.closeRun r).posture = s.posture := rfl

@[simp] theorem State.closeRun_bus (s : State) (r : Run) :
    (s.closeRun r).bus = s.bus := rfl

@[simp] theorem State.closeRun_intake (s : State) (r : Run) :
    (s.closeRun r).intake = (s.releaseRunRefs r).intake := rfl

@[simp] theorem State.closeRun_mapper (s : State) (r : Run) :
    (s.closeRun r).mapper = s.mapper := rfl

@[simp] theorem State.closeRun_gain (s : State) (r : Run) :
    (s.closeRun r).gain = (s.releaseRunRefs r).gain := rfl

@[simp] theorem State.closeRun_engine (s : State) (r : Run) :
    (s.closeRun r).engine = { s.engine with
      phase := .idle, inTransfer := none
      lastClose := some ⟨r.driver, s.engine.profileInUse.turnaround, 0⟩ } := rfl

@[simp] theorem State.closeRun_emission (s : State) (r : Run) :
    (s.closeRun r).emission = s.emission := rfl

@[simp] theorem State.closeRun_guard (s : State) (r : Run) :
    (s.closeRun r).guard = s.guard := rfl

@[simp] theorem State.closeRun_control (s : State) (r : Run) :
    (s.closeRun r).control = s.control := rfl

@[simp] theorem State.closeRun_reports (s : State) (r : Run) :
    (s.closeRun r).reports = s.reports := rfl

@[simp] theorem State.closeRun_loader (s : State) (r : Run) :
    (s.closeRun r).loader = s.loader := rfl

@[simp] theorem State.closeRun_outside (s : State) (r : Run) :
    (s.closeRun r).outside = s.outside := rfl

@[simp] theorem State.closeRun_freeIndex (s : State) (r : Run) :
    (s.closeRun r).freeIndex = s.freeIndex := rfl

@[simp] theorem State.closeRun_pending (s : State) (r : Run) :
    (s.closeRun r).pending = s.pending := rfl

/-! ### `State.copyLayout` -/

@[simp] theorem State.copyLayout_store (s : State) :
    (s.copyLayout).store = s.store.takeover := rfl

@[simp] theorem State.copyLayout_posture (s : State) :
    (s.copyLayout).posture = s.posture := rfl

@[simp] theorem State.copyLayout_bus (s : State) :
    (s.copyLayout).bus = s.bus := rfl

@[simp] theorem State.copyLayout_intake (s : State) :
    (s.copyLayout).intake = s.intake := rfl

@[simp] theorem State.copyLayout_gain (s : State) :
    (s.copyLayout).gain = s.gain := rfl

@[simp] theorem State.copyLayout_engine (s : State) :
    (s.copyLayout).engine = s.engine := rfl

@[simp] theorem State.copyLayout_emission (s : State) :
    (s.copyLayout).emission = s.emission := rfl

@[simp] theorem State.copyLayout_guard (s : State) :
    (s.copyLayout).guard = s.guard := rfl

@[simp] theorem State.copyLayout_control (s : State) :
    (s.copyLayout).control = s.control := rfl

@[simp] theorem State.copyLayout_reports (s : State) :
    (s.copyLayout).reports = s.reports := rfl

@[simp] theorem State.copyLayout_loader (s : State) :
    (s.copyLayout).loader = s.loader := rfl

@[simp] theorem State.copyLayout_outside (s : State) :
    (s.copyLayout).outside = s.outside := rfl

@[simp] theorem State.copyLayout_freeIndex (s : State) :
    (s.copyLayout).freeIndex = s.freeIndex := rfl

@[simp] theorem State.copyLayout_pending (s : State) :
    (s.copyLayout).pending = s.pending := rfl

/-! ### `State.finishLine` -/

@[simp] theorem State.finishLine_store (s : State) (n : Fin 32) :
    (s.finishLine n).store = s.store := rfl

@[simp] theorem State.finishLine_posture (s : State) (n : Fin 32) :
    (s.finishLine n).posture = s.posture := rfl

@[simp] theorem State.finishLine_bus (s : State) (n : Fin 32) :
    (s.finishLine n).bus = s.bus := rfl

@[simp] theorem State.finishLine_intake (s : State) (n : Fin 32) :
    (s.finishLine n).intake = s.intake.releaseHold n := rfl

@[simp] theorem State.finishLine_mapper (s : State) (n : Fin 32) :
    (s.finishLine n).mapper = { s.mapper with lineInHand := none } := rfl

@[simp] theorem State.finishLine_gain (s : State) (n : Fin 32) :
    (s.finishLine n).gain = s.gain := rfl

@[simp] theorem State.finishLine_engine (s : State) (n : Fin 32) :
    (s.finishLine n).engine = s.engine := rfl

@[simp] theorem State.finishLine_emission (s : State) (n : Fin 32) :
    (s.finishLine n).emission = s.emission := rfl

@[simp] theorem State.finishLine_guard (s : State) (n : Fin 32) :
    (s.finishLine n).guard = s.guard := rfl

@[simp] theorem State.finishLine_control (s : State) (n : Fin 32) :
    (s.finishLine n).control = s.control := rfl

@[simp] theorem State.finishLine_reports (s : State) (n : Fin 32) :
    (s.finishLine n).reports = s.reports := rfl

@[simp] theorem State.finishLine_loader (s : State) (n : Fin 32) :
    (s.finishLine n).loader = s.loader := rfl

@[simp] theorem State.finishLine_outside (s : State) (n : Fin 32) :
    (s.finishLine n).outside = s.outside := rfl

@[simp] theorem State.finishLine_freeIndex (s : State) (n : Fin 32) :
    (s.finishLine n).freeIndex = s.freeIndex := rfl

@[simp] theorem State.finishLine_pending (s : State) (n : Fin 32) :
    (s.finishLine n).pending = s.pending := rfl

/-! ### `State.angleChain` -/

@[simp] theorem State.angleChain_store (s : State) (raw : Nat) :
    (s.angleChain raw).store = s.store := rfl

@[simp] theorem State.angleChain_bus (s : State) (raw : Nat) :
    (s.angleChain raw).bus = s.bus := rfl

@[simp] theorem State.angleChain_intake (s : State) (raw : Nat) :
    (s.angleChain raw).intake = s.intake := rfl

@[simp] theorem State.angleChain_mapper (s : State) (raw : Nat) :
    (s.angleChain raw).mapper = s.mapper := rfl

@[simp] theorem State.angleChain_gain (s : State) (raw : Nat) :
    (s.angleChain raw).gain = s.gain := rfl

@[simp] theorem State.angleChain_engine (s : State) (raw : Nat) :
    (s.angleChain raw).engine = s.engine := rfl

@[simp] theorem State.angleChain_emission (s : State) (raw : Nat) :
    (s.angleChain raw).emission = s.emission := rfl

@[simp] theorem State.angleChain_guard (s : State) (raw : Nat) :
    (s.angleChain raw).guard = s.guard := rfl

@[simp] theorem State.angleChain_control (s : State) (raw : Nat) :
    (s.angleChain raw).control = s.control := rfl

@[simp] theorem State.angleChain_reports (s : State) (raw : Nat) :
    (s.angleChain raw).reports = s.reports := rfl

@[simp] theorem State.angleChain_loader (s : State) (raw : Nat) :
    (s.angleChain raw).loader = s.loader := rfl

@[simp] theorem State.angleChain_outside (s : State) (raw : Nat) :
    (s.angleChain raw).outside = s.outside := rfl

@[simp] theorem State.angleChain_freeIndex (s : State) (raw : Nat) :
    (s.angleChain raw).freeIndex = s.freeIndex := rfl

@[simp] theorem State.angleChain_pending (s : State) (raw : Nat) :
    (s.angleChain raw).pending = s.pending := rfl

end Sys2Proof.Machine
end

