-- ==== Sys2Proof/Laws/Ops.lean ====
section
/-! SUPPORT. For each shared operation, one lemma that says once everything it can do. -/

namespace Sys2Proof.Machine

/-! ### Zones -/

@[simp] theorem PerZone.get_set_same {α : Type} (p : PerZone α) (z : Zone) (a : α) : (p.set z a).get z = a := by
  cases z <;> rfl

theorem PerZone.get_set_other {α : Type} (p : PerZone α) {z z' : Zone} (a : α) (h : z' ≠ z) :
    (p.set z a).get z' = p.get z' := by
  cases z <;> cases z' <;> first | rfl | exact absurd rfl h

@[simp] theorem PerZone.get_map {α β : Type} (p : PerZone α) (f : α → β) (z : Zone) :
    (p.map f).get z = f (p.get z) := by
  cases z <;> rfl

@[simp] theorem PerZone.get_same {α : Type} (a : α) (z : Zone) : (PerZone.same a).get z = a := by
  cases z <;> rfl

theorem Zone.mem_allZones (z : Zone) : z ∈ allZones := by
  cases z <;> simp [allZones]

/-! ### The report queue -/

/-- An offer is admitted at the tail, or lost (R174). -/
theorem Reports.offer_cases (q : Reports) (tick : BitVec 32) (b : ReportBody) :
    (b.size ≤ q.freeSpace ∧ (q.offer tick b).records = q.records ++ [⟨b, q.lostPending, tick.truncate 16⟩]
        ∧ (q.offer tick b).lostPending = false)
      ∨ (q.freeSpace < b.size ∧ q.offer tick b = { q with lostPending := true }) := by
  unfold Reports.offer
  by_cases h : b.size ≤ q.freeSpace
  · exact .inl ⟨h, by simp [h]⟩
  · exact .inr ⟨Nat.lt_of_not_le h, by simp [h]⟩

@[simp] theorem Reports.offer_attnMask (q : Reports) (tick : BitVec 32) (b : ReportBody) :
    (q.offer tick b).attnMask = q.attnMask := by
  unfold Reports.offer; split <;> rfl

@[simp] theorem Reports.offer_attnMode (q : Reports) (tick : BitVec 32) (b : ReportBody) :
    (q.offer tick b).attnMode = q.attnMode := by
  unfold Reports.offer; split <;> rfl

/-- What an offer does to the occupancy. -/
theorem Reports.occupancy_offer_le (q : Reports) (tick : BitVec 32) (b : ReportBody) (h : q.occupancy ≤ 512) :
    (q.offer tick b).occupancy ≤ 512 := by
  obtain ⟨hsize, hrec, -⟩ | ⟨-, heq⟩ := q.offer_cases tick b
  · simp only [Reports.freeSpace] at hsize
    simp only [Reports.occupancy] at *
    simp only [hrec, List.map_append, List.map_cons, List.map_nil, List.sum_append, List.sum_cons, List.sum_nil]
    omega
  · rw [heq]; exact h

/-! ### CTRL packets -/

@[simp] theorem State.respond_cons_control (s : State) (p : Packet) (rest : List Packet) (status : Status)
    (data : List Byte) (h : s.control.queue = p :: rest) : (s.respond status data).control = ⟨rest, false⟩ := by
  simp [State.respond, h]

@[simp] theorem State.respond_cons_outside (s : State) (p : Packet) (rest : List Packet) (status : Status)
    (data : List Byte) (h : s.control.queue = p :: rest) :
    (s.respond status data).outside =
      { s.outside with
        returnLane := s.outside.returnLane ++ [⟨p.tag, s.control.overrun, status, data⟩] } := by
  simp [State.respond, h]

/-- With no packet there is no RESP. -/
theorem State.respond_nil (s : State) (status : Status) (data : List Byte) (h : s.control.queue = []) :
    s.respond status data = s := by
  simp [State.respond, h]

/-- Everything that carrying out a command can do: nothing, a refusal by LENGTH or BUSY, or the owning block's action and
its RESP (R165, R166). -/
theorem State.carryOut_cases (s : State) (code : Byte) (fits : List Byte → Bool) (exempt : Bool)
    (act : List Byte → State → Reply) :
    s.carryOut code fits exempt act = s
      ∨ (∃ status, s.turn code fits exempt = .refused status
          ∧ s.carryOut code fits exempt act = s.respond status [])
      ∨ (∃ operands, s.turn code fits exempt = .granted operands
          ∧ s.carryOut code fits exempt act =
            (act operands s).after.respond (act operands s).status (act operands s).data) := by
  unfold State.carryOut
  cases h : s.turn code fits exempt with
  | notDue => exact .inl rfl
  | refused status => exact .inr (.inl ⟨status, rfl, rfl⟩)
  | granted operands => exact .inr (.inr ⟨operands, rfl, rfl⟩)

/-- When the turn is granted: the packet is the head of the queue, its operands fit, and the loader is IDLE or the
command exempt. -/
theorem State.turn_granted (s : State) (code : Byte) (fits : List Byte → Bool) (exempt : Bool)
    (operands : List Byte) (h : s.turn code fits exempt = .granted operands) :
    (∃ p rest, s.control.queue = p :: rest ∧ p.code = code ∧ p.operands = operands
        ∧ p.count.toNat = operands.length)
      ∧ fits operands = true ∧ (s.loader.running = false ∨ exempt = true) := by
  unfold State.turn at h
  split at h
  · cases h
  · rename_i p rest hq
    split at h
    · cases h
    · rename_i hcode
      split at h
      · cases h
      · rename_i hfit
        split at h
        · cases h
        · rename_i hbusy
          cases h
          have hfit' := Classical.not_not.mp hfit
          refine ⟨⟨p, rest, hq, Classical.not_not.mp hcode, rfl, hfit'.1⟩, hfit'.2, ?_⟩
          cases hr : s.loader.running <;> cases exempt <;> simp_all

/-! ### The side bus -/

/-- A request enters an EMPTY slot, or waits behind the one in it (R52). -/
theorem SideBus.request_cases (b : SideBus) (r : Request) :
    (b.slot = .empty ∧ b.request r = { b with slot := .waiting r, totalTimer := 0 })
      ∨ (b.slot ≠ .empty ∧ b.request r = { b with waitingRequest := some r }) := by
  unfold SideBus.request
  cases h : b.slot <;> simp

/-- After the slot becomes EMPTY, a waiting request stands in it WAITING (R52). -/
theorem SideBus.emptySlot_cases (b : SideBus) :
    (b.waitingRequest = none ∧ b.emptySlot.slot = .empty)
      ∨ ∃ r, b.waitingRequest = some r ∧ b.emptySlot.slot = .waiting r := by
  unfold SideBus.emptySlot
  cases h : b.waitingRequest with
  | none => exact .inl ⟨rfl, rfl⟩
  | some r => exact .inr ⟨r, rfl, rfl⟩

/-! ### Line slots and references -/

/-- What a change of one line slot leaves in each slot. -/
theorem Intake.changeLine_lines (i : Intake) (n m : Fin 32) (f : LineSlot → Option LineSlot) :
    (i.changeLine n f).lines[m] = if m = n then i.lines[n].bind f else i.lines[m] := by
  unfold Intake.changeLine
  by_cases h : m = n
  · subst h; simp
  · have : (n : Nat) ≠ m := fun e => h (Fin.ext e.symm)
    simp [h, Vector.getElem_set_ne, this]

/-- A change of one line slot changes nothing else of the intake. -/
theorem Intake.changeLine_rest (i : Intake) (n : Fin 32) (f : LineSlot → Option LineSlot) :
    i.changeLine n f = { i with lines := (i.changeLine n f).lines } := rfl

/-- A slot is freed exactly when the hold is released and the count is 0 (R67). -/
theorem LineSlot.settle_cases (l : LineSlot) :
    (l.hold = false ∧ l.refs = 0 ∧ l.settle = none) ∨ ((l.hold = true ∨ 0 < l.refs) ∧ l.settle = some l) := by
  unfold LineSlot.settle
  by_cases h : l.hold = false ∧ l.refs = 0
  · exact .inl ⟨h.1, h.2, if_pos h⟩
  · refine .inr ⟨?_, if_neg h⟩
    cases hh : l.hold
    · right; by_contra hr; exact h ⟨hh, by omega⟩
    · left; rfl

/-- A change of the references of a run leaves of the intake all but the line slots, and of the gain unit all but the
buffers. -/
theorem State.placeRun_intake (s : State) (r : Run) :
    (s.placeRun r).intake = { s.intake with lines := (s.placeRun r).intake.lines } := by
  unfold State.placeRun State.changeRunRefs
  cases r.source.lineSlot? <;> rfl

/-- See `State.placeRun_intake`. -/
theorem State.placeRun_gain (s : State) (r : Run) :
    (s.placeRun r).gain = { s.gain with buffers := (s.placeRun r).gain.buffers } := by
  unfold State.placeRun State.changeRunRefs
  cases r.source.snapshot? <;> rfl

/-- A release of the references of a run changes the line slots alone in the intake. -/
theorem State.releaseRunRefs_intake (s : State) (r : Run) :
    (s.releaseRunRefs r).intake = { s.intake with lines := (s.releaseRunRefs r).intake.lines } := by
  unfold State.releaseRunRefs State.changeRunRefs
  cases r.source.lineSlot? <;> rfl

/-- A release of the references of a run changes the buffers alone in the gain unit. -/
theorem State.releaseRunRefs_gain (s : State) (r : Run) :
    (s.releaseRunRefs r).gain = { s.gain with buffers := (s.releaseRunRefs r).gain.buffers } := by
  unfold State.releaseRunRefs State.changeRunRefs
  cases r.source.snapshot? <;> rfl

/-- What a change of one buffer's count leaves in each buffer. -/
theorem GainUnit.changeRefs_buffers (g : GainUnit) (n m : Fin 2) (f : Nat → Nat) :
    (g.changeRefs n f).buffers[m] =
      if m = n then { g.buffers[n] with refs := f g.buffers[n].refs } else g.buffers[m] := by
  unfold GainUnit.changeRefs
  by_cases h : m = n
  · subst h; simp
  · have : (n : Nat) ≠ m := fun e => h (Fin.ext e.symm)
    simp [h, Vector.getElem_set_ne, this]

/-- A placed run stands at the tail of its driver's queue, and the other queues stay (R121). -/
theorem State.placeRun_queue (s : State) (r : Run) (d : Driver) :
    (s.placeRun r).engine.queues.get d =
      if d = r.driver then s.engine.queues.get r.driver ++ [r] else s.engine.queues.get d := by
  by_cases h : d = r.driver
  · subst h; simp
  · simp [h, PerZone.get_set_other]

/-! ### The entries of a line -/

/-- What holds of the state before, is kept by placing a run, and is kept by the two ways a line's examination can end,
holds after it (R88, R91, R92). -/
theorem examineEntries_induction {P Q : State → Prop} (modes : PerZone ZoneMode) (f : FrameInHand) (slot : Fin 32)
    (row : Nat)
    (placed : ∀ (s : State) (r : Run) (e : Entry), P s → copyRun modes f slot row e = some r →
      s.engine.hasRoom r.driver = true → P (s.placeRun r))
    (finished : ∀ s : State, P s → Q (s.finishLine slot))
    (stopped : ∀ (s : State) (r : Run) (e : Entry) (i : Nat), P s → copyRun modes f slot row e = some r →
      s.engine.hasRoom r.driver = false →
      Q { s with mapper := { s.mapper with waitingRun := some r, lineInHand := some ⟨slot, row, i + 1⟩ } })
    (es : List Entry) (i : Nat) (s : State) (h : P s) : Q (examineEntries modes f slot row es i s) := by
  induction es generalizing i s with
  | nil => exact finished s h
  | cons e es ih =>
    unfold examineEntries
    split
    · exact ih (i + 1) s h
    · rename_i r hr
      by_cases hroom : s.engine.hasRoom r.driver = true
      · simp only [hroom, if_true]
        exact ih (i + 1) _ (placed s r e h hr hroom)
      · simp only [hroom]
        exact stopped s r e i h hr (by simpa using hroom)

/-- What the examination of a line leaves unchanged: every block but the intake's line store, the mapper's line in hand
and waiting run, the gain unit's counts and the run queues (R88 to R92). -/
theorem examineEntries_frame (modes : PerZone ZoneMode) (f : FrameInHand) (slot : Fin 32) (row : Nat)
    (es : List Entry) (i : Nat) (s : State) :
    let t := examineEntries modes f slot row es i s
    t.store = s.store ∧ t.posture = s.posture ∧ t.bus = s.bus ∧ t.emission = s.emission ∧ t.guard = s.guard
      ∧ t.control = s.control ∧ t.reports = s.reports ∧ t.loader = s.loader ∧ t.outside = s.outside
      ∧ t.freeIndex = s.freeIndex ∧ t.pending = s.pending
      ∧ t.mapper = { s.mapper with waitingRun := t.mapper.waitingRun, lineInHand := t.mapper.lineInHand }
      ∧ t.engine = { s.engine with queues := t.engine.queues }
      ∧ t.intake = { s.intake with lines := t.intake.lines }
      ∧ t.gain = { s.gain with buffers := t.gain.buffers } := by
  induction es generalizing i s with
  | nil => simp [examineEntries, Intake.releaseHold, Intake.changeLine]
  | cons e es ih =>
    unfold examineEntries
    split
    · exact ih (i + 1) s
    · rename_i r hr
      by_cases hroom : s.engine.hasRoom r.driver = true
      · simp only [hroom, if_true]
        have h := ih (i + 1) (s.placeRun r)
        simp only [State.placeRun_store, State.placeRun_posture, State.placeRun_bus, State.placeRun_emission,
          State.placeRun_guard, State.placeRun_control, State.placeRun_reports, State.placeRun_loader,
          State.placeRun_outside, State.placeRun_freeIndex, State.placeRun_pending, State.placeRun_mapper,
          State.placeRun_engine] at h
        rw [State.placeRun_intake, State.placeRun_gain] at h
        exact h
      · simp [hroom]

/-! ### Layouts -/

/-- The tests of an edit, when they pass (R8). -/
theorem LayoutStore.editTests_ok (st : LayoutStore) (n : Nat) (i : Fin 8) :
    st.editTests n = .ok i ↔ i.val = n ∧ n ≠ 0 ∧ st.inUse i = false := by
  unfold LayoutStore.editTests
  constructor
  · intro h
    split at h
    · rename_i hn
      split at h
      · cases h
      · split at h
        · cases h
        · rename_i h0 hu
          cases h
          exact ⟨rfl, h0, by simpa using hu⟩
    · cases h
  · rintro ⟨rfl, h0, hu⟩
    simp [h0, hu]

/-- An edit that succeeds: the five tests pass, one slot becomes EDITING with the changed layout, and the rest of the
store stays (R8). -/
theorem LayoutStore.edit_ok (st : LayoutStore) (n : Nat) (needs : Bool) (change : Layout → Option Layout)
    (slot : Slot) (st' : LayoutStore) (h : st.edit n needs change = .ok (slot, st')) :
    ∃ (i : Fin 8) (l : Layout), i.val = n ∧ n ≠ 0 ∧ st.inUse i = false
      ∧ ¬ (needs = true ∧ st.slots[i].state = .empty) ∧ change st.slots[i].layout = some l
      ∧ slot = ⟨.editing, l⟩ ∧ st' = { st with slots := st.slots.set i ⟨.editing, l⟩ } := by
  unfold LayoutStore.edit at h
  split at h
  · cases h
  · rename_i i hi
    obtain ⟨h1, h2, h3⟩ := (LayoutStore.editTests_ok st n i).mp hi
    split at h
    · cases h
    · rename_i hne
      split at h
      · cases h
      · rename_i l hl
        cases h
        exact ⟨i, l, h1, h2, h3, hne, hl, rfl, rfl⟩

end Sys2Proof.Machine
end

