-- ==== Sys2Proof/Laws/Sections.lean ====
section
/-! SUPPORT. What the application of an image section can do: it neither reads nor changes the loader, and it leaves the
side bus, the reports and what lies outside as they are. -/

namespace Sys2Proof.Machine

/-! ### The loader is neither read nor changed -/

/-- The state with another loader and another free index. -/
def State.withLoader (s : State) (l : Loader) (i : Nat) : State := { s with loader := l, freeIndex := i }

/-- ANGLE does not read the loader. -/
theorem State.applyAngle_withLoader (s : State) (l : Loader) (i : Nat) (body : List Byte) :
    State.applyAngle (s.withLoader l i) body = (s.applyAngle body).map (·.withLoader l i) := by
  unfold State.applyAngle
  cases parseAngleConfig (body.take 13) with
  | none => rfl
  | some c =>
    rcases body.drop 13 with _ | ⟨hi, _ | ⟨lo, _ | _⟩⟩
    · rfl
    · rfl
    · dsimp only; rw [Option.map_map]; rfl
    · rfl

/-- GAIN does not read the loader. -/
theorem State.applyGain_withLoader (s : State) (l : Loader) (i : Nat) (body : List Byte) :
    State.applyGain (s.withLoader l i) body = (s.applyGain body).map (·.withLoader l i) := by
  simp only [State.applyGain]; split <;> rfl

/-- EMIT does not read the loader. -/
theorem State.applyEmit_withLoader (s : State) (l : Loader) (i : Nat) (body : List Byte) :
    State.applyEmit (s.withLoader l i) body = (s.applyEmit body).map (·.withLoader l i) := by
  unfold State.applyEmit; split <;> rfl

/-- GUARD does not read the loader. -/
theorem State.applyGuard_withLoader (s : State) (l : Loader) (i : Nat) (body : List Byte) :
    State.applyGuard (s.withLoader l i) body = (s.applyGuard body).map (·.withLoader l i) := by
  unfold State.applyGuard; split <;> rfl

/-- A profile does not read the loader. -/
theorem State.applyProfile_withLoader (s : State) (l : Loader) (i : Nat) (d : Driver) (c w t : Byte) :
    State.applyProfile (s.withLoader l i) d c w t =
      ((s.applyProfile d c w t).1, (s.applyProfile d c w t).2.withLoader l i) := by
  unfold State.applyProfile; split <;> rfl

/-- LAYOUT does not read the loader. -/
theorem State.applyLayout_withLoader (s : State) (l : Loader) (i : Nat) (body : List Byte) :
    State.applyLayout (s.withLoader l i) body = ((s.applyLayout body).1, (s.applyLayout body).2.withLoader l i) := by
  unfold State.applyLayout
  split
  · rename_i n f sp b count entries
    rw [show (s.withLoader l i).store = s.store from rfl]
    cases s.store.editTests n.toNat with
    | error _ => rfl
    | ok j =>
      dsimp only
      split
      · rfl
      · cases parseLayout f sp b count.toNat entries <;> rfl
  · rfl

/-- A MAP entry does not read the loader. -/
theorem State.applyMapEntry_withLoader (s : State) (l : Loader) (i : Nat) (p : Posture) (n : Byte) :
    State.applyMapEntry (s.withLoader l i) p n =
      ((s.applyMapEntry p n).1, (s.applyMapEntry p n).2.withLoader l i) := by
  unfold State.applyMapEntry State.offerToMap
  by_cases h : n.toNat < 8
  · by_cases ready : s.store.slots[n.toNat].state = .ready <;> simp [h, ready, State.withLoader, State.notify]
  · simp [h, State.withLoader]

/-- A section that stores all or nothing does not read the loader when its storing does not. -/
theorem State.orKeep_withLoader (s : State) (l : Loader) (i : Nat) (o : Option State) :
    (s.withLoader l i).orKeep (o.map (·.withLoader l i)) = ((s.orKeep o).1, (s.orKeep o).2.withLoader l i) := by
  cases o <;> rfl

/-- The application of a section neither reads nor changes the loader and the free index (R182). -/
theorem State.applySection_withLoader (s : State) (l : Loader) (i : Nat) (kind : Byte) (body : List Byte) :
    (s.withLoader l i).applySection kind body =
      ((s.applySection kind body).1, (s.applySection kind body).2.withLoader l i) := by
  have map : State.applyMap (s.withLoader l i) body = ((s.applyMap body).1, (s.applyMap body).2.withLoader l i) := by
    unfold State.applyMap
    split
    · simp only [State.applyMapEntry_withLoader]
    · rfl
  have profiles : State.applyProfiles (s.withLoader l i) body =
      ((s.applyProfiles body).1, (s.applyProfiles body).2.withLoader l i) := by
    unfold State.applyProfiles
    split
    · simp only [State.applyProfile_withLoader]
    · rfl
  unfold State.applySection
  split
  · generalize kind.toNat = k
    match k with
    | 1 => simp only [State.applyAngle_withLoader, State.orKeep_withLoader]
    | 2 => simp only [State.applyGain_withLoader, State.orKeep_withLoader]
    | 3 => simp only [State.applyEmit_withLoader, State.orKeep_withLoader]
    | 4 => simp only [State.applyGuard_withLoader, State.orKeep_withLoader]
    | 5 => simp only [profiles]
    | 6 => simp only [State.applyLayout_withLoader]
    | 0 => simp only [map]
    | n + 7 => simp only [map]
  · rfl

/-! ### What stays -/

/-- What the application of a section leaves as it was. -/
structure SectionFrame (s t : State) : Prop where
  bus : t.bus = s.bus
  intake : t.intake = s.intake
  control : t.control = s.control
  loader : t.loader = s.loader
  reports : t.reports = s.reports
  outside : t.outside = s.outside
  freeIndex : t.freeIndex = s.freeIndex
  pending : t.pending = s.pending

theorem SectionFrame.refl (s : State) : SectionFrame s s := ⟨rfl, rfl, rfl, rfl, rfl, rfl, rfl, rfl⟩

theorem SectionFrame.trans {s t u : State} (h : SectionFrame s t) (h' : SectionFrame t u) : SectionFrame s u :=
  ⟨h'.bus.trans h.bus, h'.intake.trans h.intake, h'.control.trans h.control, h'.loader.trans h.loader,
    h'.reports.trans h.reports, h'.outside.trans h.outside, h'.freeIndex.trans h.freeIndex,
    h'.pending.trans h.pending⟩

/-- A section that stores all or nothing leaves what its storing leaves. -/
theorem State.orKeep_frame (s : State) (o : Option State) (h : ∀ t, o = some t → SectionFrame s t) :
    SectionFrame s (s.orKeep o).2 := by
  cases o with
  | none => exact .refl s
  | some t => exact h t rfl

theorem State.applyProfile_frame (s : State) (d : Driver) (c w t : Byte) : SectionFrame s (s.applyProfile d c w t).2 := by
  unfold State.applyProfile; split <;> exact ⟨rfl, rfl, rfl, rfl, rfl, rfl, rfl, rfl⟩

theorem State.applyMapEntry_frame (s : State) (p : Posture) (n : Byte) : SectionFrame s (s.applyMapEntry p n).2 := by
  unfold State.applyMapEntry State.offerToMap
  by_cases h : n.toNat < 8
  · by_cases ready : s.store.slots[n.toNat].state = .ready
    · simp only [h, ready, dite_true, if_true]; exact ⟨rfl, rfl, rfl, rfl, rfl, rfl, rfl, rfl⟩
    · simp only [h, ready, dite_true, if_false]; exact .refl s
  · simp only [h, dite_false]; exact .refl s

/-- What the application of any section leaves as it was (R182 to R184). -/
theorem State.applySection_frame (s : State) (kind : Byte) (body : List Byte) :
    SectionFrame s (s.applySection kind body).2 := by
  have map : SectionFrame s (s.applyMap body).2 := by
    unfold State.applyMap
    split
    · exact (State.applyMapEntry_frame ..).trans ((State.applyMapEntry_frame ..).trans
        ((State.applyMapEntry_frame ..).trans (State.applyMapEntry_frame ..)))
    · exact .refl s
  unfold State.applySection
  split
  · generalize kind.toNat = k
    match k with
    | 1 =>
      refine s.orKeep_frame _ fun t h => ?_
      unfold State.applyAngle at h
      split at h
      · obtain ⟨o, _, rfl⟩ := Option.map_eq_some_iff.mp h; exact ⟨rfl, rfl, rfl, rfl, rfl, rfl, rfl, rfl⟩
      · cases h
    | 2 =>
      refine s.orKeep_frame _ fun t h => ?_
      simp only [State.applyGain] at h
      split at h <;> cases h
      exact ⟨rfl, rfl, rfl, rfl, rfl, rfl, rfl, rfl⟩
    | 3 =>
      refine s.orKeep_frame _ fun t h => ?_
      simp only [State.applyEmit] at h
      split at h <;> cases h
      exact ⟨rfl, rfl, rfl, rfl, rfl, rfl, rfl, rfl⟩
    | 4 =>
      refine s.orKeep_frame _ fun t h => ?_
      simp only [State.applyGuard] at h
      split at h <;> cases h
      exact ⟨rfl, rfl, rfl, rfl, rfl, rfl, rfl, rfl⟩
    | 5 =>
      show SectionFrame s (s.applyProfiles body).2
      unfold State.applyProfiles
      split
      · exact (State.applyProfile_frame ..).trans ((State.applyProfile_frame ..).trans (State.applyProfile_frame ..))
      · exact .refl s
    | 6 =>
      show SectionFrame s (s.applyLayout body).2
      unfold State.applyLayout
      split
      · split
        · exact .refl s
        · split
          · exact .refl s
          · split <;> exact ⟨rfl, rfl, rfl, rfl, rfl, rfl, rfl, rfl⟩
      · exact .refl s
    | 0 => exact map
    | n + 7 => exact map
  · exact .refl s

end Sys2Proof.Machine
end

