-- ==== Sys2Proof/Laws/SideBus.lean ====
section
/-! SUPPORT. What a side bus attempt sends and how it ends: the model's operations in the words of the statements. -/

namespace Sys2Proof.Machine

open Sys2Proof.Safety

/-- The sequence that the model sends is that of R54 and R55. -/
@[simp] theorem Request.sequence_eq (r : Request) : r.sequence = requestSymbols r := by cases r <;> rfl

theorem requestSymbols_ne_nil (r : Request) : requestSymbols r ≠ [] := by cases r <;> simp [requestSymbols]

/-- The opening is the symbols that arbitration can be lost on (R57). -/
theorem Request.opening_eq_take (r : Request) : r.opening = (requestSymbols r).take (contestedSymbols r) := by
  cases r <;> rfl

/-- A part of a sequence is a beginning of it, short of its end. -/
theorem partOf_eq_take (symbols : List BusSymbol) (k : Nat) (h : symbols ≠ []) :
    ∃ n < symbols.length, partOf symbols k = symbols.take n :=
  ⟨k % symbols.length, Nat.mod_lt _ (List.length_pos_iff.mpr h), rfl⟩

/-- Where arbitration was lost, a beginning of the sequence had been sent (R57). -/
theorem Request.partOf_opening (r : Request) (k : Nat) :
    ∃ n < contestedSymbols r, partOf r.opening k = (requestSymbols r).take n := by
  obtain ⟨n, hn, he⟩ := partOf_eq_take r.opening k (by cases r <;> simp [Request.opening])
  have len : r.opening.length = contestedSymbols r := by cases r <;> rfl
  rw [len] at hn
  exact ⟨n, hn, by rw [he, r.opening_eq_take, List.take_take, Nat.min_eq_left hn.le]⟩

/-- Where a device refused, the sequence had been sent up to an acknowledge that the FL420 expects (R59). -/
theorem Request.refusedAt_eq_take (r : Request) (k : Nat) :
    ∃ n ∈ acknowledgesExpected r, r.refusedAt k = (requestSymbols r).take n := by
  cases r with
  | sensor device register =>
    have h : k % 3 < 3 := Nat.mod_lt _ (by decide)
    show ∃ n ∈ [1, 2, 4], (Request.opening _).take (([1, 2, 4] : List Nat).getD (k % 3) 1) = _
    generalize k % 3 = m at h ⊢
    match m, h with
    | 0, _ => exact ⟨1, by simp, rfl⟩
    | 1, _ => exact ⟨2, by simp, rfl⟩
    | 2, _ => exact ⟨4, by simp, rfl⟩
  | nvm address count =>
    have h : k % 4 < 4 := Nat.mod_lt _ (by decide)
    show ∃ n ∈ [1, 2, 3, 5], (Request.opening _).take (([1, 2, 3, 5] : List Nat).getD (k % 4) 1) = _
    generalize k % 4 = m at h ⊢
    match m, h with
    | 0, _ => exact ⟨1, by simp, rfl⟩
    | 1, _ => exact ⟨2, by simp, rfl⟩
    | 2, _ => exact ⟨3, by simp, rfl⟩
    | 3, _ => exact ⟨5, by simp, rfl⟩

/-- The slot after an end, as the statements write it. -/
theorem State.endTransaction_eq (s : State) (received : List Byte) (after : BusAfter) :
    s.endTransaction received after = { s with bus := handedOn s.bus received after.state after.linesHigh } := rfl

/-- A completed read has sent its whole sequence (R54, R55, R58). -/
theorem State.completeRead_eq (s : State) (r : Request) (received : List Byte) (lateLoss : Bool) :
    s.completeRead r received lateLoss = readDone s r received lateLoss := by
  unfold State.completeRead readDone
  rw [Request.sequence_eq]
  cases lateLoss <;> rfl

/-- An attempt broken off and ended has sent what its free value says (R59 to R61, log 20). -/
theorem State.breakOff_endTransaction (s : State) (f : Nat → List BusSymbol) (after : BusAfter) :
    (s.breakOff f).endTransaction [] after =
      brokenOff s (f (Config.symbolsSent s.freeIndex)) after.state after.linesHigh := rfl

end Sys2Proof.Machine
end

