-- ==== Sys2Proof/WellFormed.lean ====
section
/-! DEFINITION. Which commands the outside can send. The packet fields, the bytes and the pixels have their widths in
their types; what is left to check is the lengths and counts that the spec bounds. The meanings are total: they do not
assume these checks. -/

namespace Sys2Proof

/-- The ranges the spec gives the operands of a command. That a CTRL packet delivers at most 255 operand bytes is a
DESIGN CHOICE (log 32): R163 bounds the count alone, and R165 lets the number delivered differ from it. -/
def Instr.wellFormed : Instr → Bool
  -- R163 bounds the operand byte count by 255; the same bound on the bytes delivered is a DESIGN CHOICE (log 32).
  | .ctrl _ _ _ operands => decide (operands.length ≤ 255)
  -- R52: an NVM read carries a byte count of 1 to 64.
  | .nvmReadComplete bytes _ => decide (1 ≤ bytes.length ∧ bytes.length ≤ 64)
  -- R120, R131: a run is 1 to 432 pairs, and the pair in progress at a drop is not completed.
  | .holdLimit pairsDone => decide (pairsDone ≤ 431)
  | .reset | .softReset | .unknownCommand | .otherPacket | .slotClear | .slotZones | .entryPut | .entryDrop
  | .slotCheck | .slotRead | .mapSet | .faceSet | .angleSet | .angleCal | .gainLoad | .gainPoints | .profileSet
  | .emitSet | .emitPeriod | .emitFade | .guardSet | .reportRead | .attnSet | .statusRead | .faultClear
  | .imageReload | .fopen _ _ _ | .line _ _ | .fclose _ | .sampleTimerExpiry | .busStartSeen | .busStopSeen
  | .busIdleTimeout | .transactionStart | .arbitrationLost | .sensorReadComplete _ _ _ | .nackAbort
  | .stretchTimeout | .totalTimeout _ | .frameSetUp | .lineItem | .waitingRunPlaced | .frameEnd | .fillSweepRun
  | .postureNotice | .mapSetNotice | .guardStateNotice | .dropNotice | .grant | .turnaroundDone | .windowAccepted
  | .reject | .retryDone | .runFinished | .periodEnd | .estopAsserted | .estopReleased | .tick | .guardTimerExpiry
  | .attnPulseEnd | .busLineLow => true

end Sys2Proof
end

