-- ==== Sys2Proof/Tests/Slice0.lean ====
section
/-! SUPPORT. The model's own tests: what WellFormed refuses, the worked examples of the spec, and for every obligation with
hypotheses the states and operands that meet them, clause by clause. -/

namespace Sys2Proof.Tests

open Sys2Proof.Machine Sys2Proof.Safety

/-! ### Small states -/

/-- The state after a step; the reset state where there is none. -/
def after : Result → State
  | .next s => s
  | .fault _ | .refused _ => State.reset

/-- The reset state once the loader has ended and the side bus is FREE. -/
def calm : State :=
  { State.reset with
    loader := { State.reset.loader with running := false, phase := .idle }
    bus := { State.reset.bus with slot := .empty, state := .free, linesHigh := true } }

/-- A CTRL packet with tag 5. -/
def packet (code : Byte) (operands : List Byte) : Packet := ⟨0x35, code, BitVec.ofNat 8 operands.length, operands⟩

/-- The state with one packet on its command queue. -/
def asking (s : State) (code : Byte) (operands : List Byte) : State :=
  { s with control := ⟨[packet code operands], false⟩ }

theorem asks (s : State) (code : Byte) (operands : List Byte) (h : operands.length < 256) :
    Asks (asking s code operands) (packet code operands) [] code operands :=
  ⟨rfl, rfl, rfl, by simp [packet, Nat.mod_eq_of_lt h]⟩

/-- The RESP sent last, as bytes. -/
def lastResp (s : State) : List Byte :=
  match s.outside.returnLane.getLast? with
  | some r => r.bytes
  | none => []

/-- The closed-front layout of chapter 1. -/
def entry0 : Entry := ⟨⟨0, 0, 864, 2304⟩, .copy 0 0 false⟩

/-- See `entry0`. -/
def entry1 : Entry := ⟨⟨0, 2304, 864, 96⟩, .fill ⟨200, 200, 200⟩⟩

/-- See `entry0`. -/
def closedFront : Layout := ⟨⟨.live, .dark, .hold⟩, [entry0, entry1]⟩

/-- Slot 3 holds a layout in a state. -/
def slot3 (state : SlotState) (l : Layout) : State := calm.writeSlot 3 ⟨state, l⟩

/-- The frame copy is the closed-front layout, with frame 7 in hand and a queue. -/
def mapping (queue : List IntakeItem) : State :=
  { calm with
    intake := { calm.intake with queue := queue }
    mapper := { calm.mapper with copySlot := 3, copy := closedFront, frameInHand := some ⟨7, 1800, 2400, 1⟩ } }

/-- A run of 8 black pixels. -/
def fill8 (d : Driver) : Run := ⟨d, 5, 16, 8, .fill Pixel.black, 0⟩

/-- A bus engine with a run in transfer. -/
def transferring (phase : Phase) (attempts : Nat) : State :=
  { calm with engine := { calm.engine with
      phase := phase, inTransfer := some { fill8 .back with attempts := attempts } } }

/-- An intake state with an open frame of 1800 by 2400. -/
def receiving : State := after (exec (.fopen 17 1800 2400) calm)

/-! ### WellFormed refuses what the spec bounds -/

theorem test_wellFormed_ctrl :
    (Instr.ctrl 0 0 0 (List.replicate 256 0)).wellFormed = false
      ∧ (Instr.ctrl 0 0 255 (List.replicate 255 0)).wellFormed = true := by decide +kernel

theorem test_wellFormed_nvm :
    (Instr.nvmReadComplete [] false).wellFormed = false
      ∧ (Instr.nvmReadComplete (List.replicate 65 0) false).wellFormed = false
      ∧ (Instr.nvmReadComplete (List.replicate 64 0) false).wellFormed = true := by decide +kernel

theorem test_wellFormed_holdLimit :
    (Instr.holdLimit 432).wellFormed = false ∧ (Instr.holdLimit 431).wellFormed = true := by decide

/-! ### Worked examples -/

/-- 1.4: the closed-front layout passes, and its three variants fail. -/
theorem test_check :
    closedFront.check = none
      ∧ Layout.check ⟨closedFront.modes, [entry0, ⟨⟨0, 2300, 864, 100⟩, entry1.body⟩]⟩ = some (.overlap 0)
      ∧ Layout.check ⟨closedFront.modes, [entry0, ⟨⟨0, 2304, 864, 90⟩, entry1.body⟩]⟩ = some (.gap .front)
      ∧ Layout.check ⟨closedFront.modes, [entry0, ⟨⟨0, 2304, 900, 96⟩, entry1.body⟩]⟩ = some (.entry .crossZone 1) := by
  decide +kernel

/-- 1.4: SLOT_CHECK makes slot 3 READY with 2 entries. -/
theorem test_slotCheck :
    let t := after (exec .slotCheck (asking (slot3 .editing closedFront) 0x05 [3]))
    t.store.slots[3].state = .ready ∧ lastResp t = [0x05, 0, 2, 2, 2] := by decide +kernel

/-- 1.5: SLOT_READ(3, 1, 3) returns entries 1, 0, 1. -/
theorem test_slotRead :
    lastResp (after (exec .slotRead (asking (slot3 .ready closedFront) 0x06 [3, 1, 3]))) =
      [0x05, 0, 65, 2, 0, 2, 1, 2] ++ entry1.bytes ++ entry0.bytes ++ entry1.bytes := by decide +kernel

/-- 1.5: SLOT_READ(3, 2, 4) is RANGE, and on an EMPTY slot no entry is returned. -/
theorem test_slotRead_edges :
    lastResp (after (exec .slotRead (asking (slot3 .ready closedFront) 0x06 [3, 2, 4]))) = [0x05, 2, 0]
      ∧ lastResp (after (exec .slotRead (asking calm 0x06 [5, 0, 4]))) = [0x05, 0, 5, 0, 0, 0, 0, 0] := by
  decide +kernel

/-- The FILL entry of 1.4 as ENTRY_PUT(3, 1, …): 20 bytes written out from 10.5. -/
theorem test_entryPut :
    let s := slot3 .editing ⟨closedFront.modes, [entry0]⟩
    let t := after (exec .entryPut (asking s 0x03
      [3, 1, 1, 0, 0, 9, 0, 3, 96, 0, 96, 0, 0, 0, 0, 0, 0, 200, 0, 200, 0, 200]))
    t.store.slots[3].layout = closedFront ∧ lastResp t = [0x05, 0, 2, 1, 2] := by decide +kernel

/-- 1.6 steps 2, 3 and 10: SLOT_CLEAR and SLOT_ZONES on slot 3; a slot in a map is INUSE. -/
theorem test_slotClear_slotZones :
    lastResp (after (exec .slotClear (asking calm 0x01 [3]))) = [0x05, 0, 2, 1, 0]
      ∧ (after (exec .slotZones (asking (slot3 .editing emptyLayout) 0x02 [3, 0, 2, 1]))).store.slots[3].layout =
          ⟨⟨.live, .dark, .hold⟩, []⟩
      ∧ lastResp (after (exec .slotClear (asking { calm with store := { calm.store with active := ⟨0, 1, 2, 2⟩ } }
          0x01 [2]))) = [0x05, 4, 0] := by decide +kernel

/-- ENTRY_DROP on a list of two leaves the first. -/
theorem test_entryDrop :
    (after (exec .entryDrop (asking (slot3 .ready closedFront) 0x04 [3]))).store.slots[3] =
      ⟨.editing, ⟨closedFront.modes, [entry0]⟩⟩ := by decide +kernel

/-- 1.6 steps 6 and 8: MAP_SET(CLOSED_FRONT, 3). -/
theorem test_mapSet :
    lastResp (after (exec .mapSet (asking (slot3 .editing closedFront) 0x07 [3, 3]))) = [0x05, 3, 0]
      ∧ (after (exec .mapSet (asking (slot3 .ready closedFront) 0x07 [3, 3]))).store.pendingMap = ⟨0, 0, 3, 0⟩ := by
  decide +kernel

/-- 2.3: calibration and folding. -/
theorem test_calibration :
    [(1000, (0 : Int)), (4000, 200), (60, -100), (2100, 0), (3000, 100)].map
        (fun p => (correctedCode p.1 p.2, openingAngle (correctedCode p.1 p.2))) =
      [(1000, 1000), (104, 104), (4056, 0), (2100, 2048), (3100, 0)] := by decide +kernel

/-- 2.4: filter steps, from above and from below. -/
theorem test_filter :
    filterStep 2 (some 16000) 1200 = 16800 ∧ filterStep 2 (some 16800) 900 = 16200
      ∧ filterStep 2 (some 16003) 1000 = 16002 ∧ filterStep 2 (some 15997) 1000 = 15997
      ∧ [16800, 16200, 15997].map filteredAngle = [1050, 1013, 1000] := by decide +kernel

/-- 2.5: the dwell rows of the two tables. -/
theorem test_classify :
    let t := calm.posture.config.thresholds
    [1830, 1700].map (classify t .bent) = [.opened, .bent]
      ∧ [1750, 1697, 1696].map (classify t .opened) = [.opened, .opened, .bent] := by decide +kernel

/-- The posture unit of 2.7 at sample 10: sensor lost, posture OPEN, f 2000. -/
def lost : State :=
  { calm with
    posture := { calm.posture with
      posture := .opened, y := some 32000, f := 2000, missCount := 8, sensorLost := true, outstanding := true }
    bus := { calm.bus with
      slot := .active (.sensor 0x36 0x10), state := .busy, linesReleased := false, linesHigh := false } }

/-- 2.7 sample 10: 0x3E, 0x80 is raw code 1000; the flag clears, f is 1000, w is 142, BENT is a candidate. -/
theorem test_sensorReadComplete :
    let t := after (exec (.sensorReadComplete 0x3E 0x80 false) lost)
    (t.posture.y, t.posture.f, t.posture.w, t.posture.missCount) = (some 16000, 1000, 142, 0)
      ∧ (t.posture.candidate, t.posture.dwellCount, t.posture.posture) = (some .bent, 1, .opened)
      ∧ t.reports.records = [⟨.fault .sensorBack .front 0 1000, false, 0⟩] := by decide +kernel

/-- 2.7 sample 8: the eighth miss sets the flag and offers SENSOR_LOST with f 2000; sample 9 offers nothing. -/
theorem test_failedSample :
    let s := { lost with posture := { lost.posture with missCount := 7, sensorLost := false } }
    let t := after (exec .nackAbort s)
    t.posture.sensorLost = true ∧ t.reports.records = [⟨.fault .sensorLost .front 0 2000, false, 0⟩]
      ∧ (after (exec .nackAbort lost)).reports.records = [] := by decide +kernel

/-- 2.8: blend weights. -/
theorem test_blendWeight :
    [(1000, 300, 1900), (1000, 256, 1920), (256, 256, 1920), (2000, 256, 1920), (1919, 256, 1920), (257, 256, 1920)].map
        (fun p => blendWeight p.1 p.2.1 p.2.2) = [144, 142, 256, 0, 0, 256] := by decide +kernel

/-- R39: a facing of BACK in CLOSED_FRONT switches the posture. -/
theorem test_faceSet :
    let t := after (exec .faceSet (asking { calm with posture := { calm.posture with posture := .closedFront } } 0x10 [1]))
    t.posture.posture = .closedBack
      ∧ t.reports.records = [⟨.posture .closedBack .closedFront 0 false true, false, 0⟩] := by decide +kernel

/-- R45: k 9 is stored as 5 and a dwell of 0 as 1; R47: an offset of -2049 is RANGE. -/
theorem test_angle :
    lastResp (after (exec .angleSet (asking calm 0x11 [2, 9, 1, 0, 1, 96, 6, 160, 7, 32, 0, 0x36, 0x10]))) =
        [0x05, 0, 13, 2, 5, 1, 0, 1, 96, 6, 160, 7, 32, 1, 0x36, 0x10]
      ∧ (after (exec .angleCal (asking calm 0x12 [0xF8, 0]))).posture.offset = -2048
      ∧ lastResp (after (exec .angleCal (asking calm 0x12 [0xF7, 0xFF]))) = [0x05, 2, 0] := by decide +kernel

/-- 3.5: a request at an expiry; arbitration lost; the loader's read waits behind the sensor read. -/
theorem test_sideBus :
    let s1 := after (exec .sampleTimerExpiry calm)
    let s2 := after (exec .transactionStart s1)
    let s3 := after (exec .arbitrationLost s2)
    let s4 := after (exec .imageReload (asking s3 0x80 []))
    s1.bus.slot = .waiting (.sensor 0x36 0x10) ∧ s2.bus.slot = .active (.sensor 0x36 0x10)
      ∧ s3.bus.slot = .waiting (.sensor 0x36 0x10) ∧ s3.bus.state = .busy
      ∧ s4.bus.waitingRequest = some (.nvm 0 1) ∧ s4.loader.running = true := by decide +kernel

/-- R54, R55: what a sensor read of register 0x10 at 0x36 sends, and the marker read after reset. -/
theorem test_sideBus_symbols :
    let s := after (exec .transactionStart (after (exec .sampleTimerExpiry calm)))
    let t := after (exec .transactionStart (after (exec .busStopSeen State.reset)))
    (after (exec (.sensorReadComplete 0x3E 0x80 false) s)).outside.sideBus =
        [.start, .address 0x36 false, .byte 0x10, .repeatedStart, .address 0x36 true, .acknowledge, .notAcknowledge,
          .stop]
      ∧ (after (exec (.nvmReadComplete [0xC3] true) t)).outside.sideBus =
        [.start, .address 0x50 false, .byte 0, .byte 0, .repeatedStart, .address 0x50 true, .notAcknowledge]
      ∧ (Request.nvm 0x1FE2 3).sequence =
        [.address 0x50 false, .byte 0x1F, .byte 0xE2, .repeatedStart, .address 0x50 true, .acknowledge, .acknowledge,
          .notAcknowledge] := by decide +kernel

/-- 3.6: a stretch timeout leaves the bus BUSY with an empty slot and one miss. -/
theorem test_stretchTimeout :
    let s := { lost with posture := { lost.posture with missCount := 0, sensorLost := false } }
    let t := after (exec .stretchTimeout s)
    t.bus.slot = .empty ∧ t.bus.state = .busy ∧ t.posture.missCount = 1 := by decide +kernel

/-- A LINE of n black pixels, as 4.4 sends them. -/
def blackLine (row : Word16) (n : Nat) : Instr := .line row (List.replicate n Pixel.black)

/-- 4.4 steps 2 to 7 with short payloads: the counts, the queue and the record of frame 17. -/
theorem test_frame :
    let s := after (exec (.fopen 17 4 2400) calm)
    let s := after (exec (blackLine 0 4) s)
    let s := after (exec (blackLine 1 3) s)
    let s := after (exec (blackLine 1 4) s)
    let s := after (exec (blackLine 2400 4) s)
    let s := after (exec (blackLine 5 5) s)
    let t := after (exec (.fclose 6) s)
    (s.intake.arrived, s.intake.accepted, s.intake.dropped, s.intake.firstDropped) = (5, 3, 2, some 1)
      ∧ t.intake.queue = [.frameStart 17 4 2400, .line 0 0, .line 1 1, .line 2 5, .frameEnd]
      ∧ (t.reports.records.map (·.body)).getLast? = some (.intake 17 0xB8 3 2 (some 1)) := by decide +kernel

/-- 4.4 steps 8 and 9: the first stray line gives a record with frame 17, the second none. -/
theorem test_strayLine :
    let s := { calm with intake := { calm.intake with lastFrame := 17 } }
    let t := after (exec (blackLine 6 4) s)
    (t.reports.records.map (·.body)) = [.intake 17 0x100 0 1 (some 6)]
      ∧ (after (exec (blackLine 7 4) t)).reports.records.length = 1 := by decide +kernel

/-- 4.5 step 1: FOPEN on a queue with 2 free items truncates frame 40 and accepts frame 41. -/
theorem test_fopen_truncates :
    let s := { calm with intake := { calm.intake with
      state := .receiving, header := ⟨40, 1800, 2400⟩, reserved := true, queue := List.replicate 37 .frameEnd } }
    let t := after (exec (.fopen 41 1800 2400) s)
    t.intake.state = .receiving ∧ t.intake.queue.length = 39 ∧ t.intake.freeItems = 0
      ∧ (t.reports.records.map (·.body)).head? = some (.intake 40 4 0 0 none) := by decide +kernel

/-- 5.2: the fill list of the closed-front layout: the dark SPINE, then the grey strip. -/
theorem test_fillList :
    closedFront.fillList = [⟨.spine, 0, 0, 72, 2400, Pixel.black⟩, ⟨.front, 0, 2304, 864, 96, ⟨200, 200, 200⟩⟩] := by
  decide +kernel

/-- 5.6: the set-up of frame 80 under slot 3 is a repaint frame with SLOT_CHANGED, and the cursor is at item 0, row 0. -/
theorem test_frameSetUp :
    let s := slot3 .ready closedFront
    let s := { s with
      store := { s.store with pendingMap := ⟨3, 3, 3, 3⟩ }
      mapper := { s.mapper with copySlot := 1, repaintPending := false }
      intake := { s.intake with queue := [.frameStart 80 1800 2400] } }
    let t := after (exec .frameSetUp s)
    t.mapper.cursor = some ⟨0, 0⟩ ∧ t.store.active = ⟨3, 3, 3, 3⟩ ∧ t.emission.zones.spine.mode = .dark
      ∧ t.reports.records.map (·.body) = [.applied 3 .unset 80 true false false false] := by decide +kernel

/-- R159: the first frame after BLANK waits for the guard notice, and its record carries FORCED. -/
theorem test_frameSetUp_after_blank :
    let s := { calm with mapper := { calm.mapper with repaintPending := false } }
    let s := after (exec (.fopen 17 1800 2400) s)
    let t := after (exec .frameSetUp (after (exec .guardStateNotice s)))
    after (exec .frameSetUp s) = s
      ∧ (t.reports.records.map (·.body)).getLast? = some (.applied 0 .unset 17 false true false false) := by
  decide +kernel

/-- R88, R89: row 10 gives one run, for driver F, and the line slot keeps one reference. -/
theorem test_lineItem :
    let s := mapping [.line 4 10]
    let s := { s with intake := { s.intake with lines := s.intake.lines.set 4 (some ⟨[], true, 0⟩) } }
    let t := after (exec .lineItem s)
    t.engine.queues = ⟨[⟨.front, 10, 0, 864, .copy 4 0 false 1800 none, 0⟩], [], []⟩
      ∧ t.intake.lines[4] = some ⟨[], false, 1⟩ ∧ t.mapper.lineInHand = none := by decide +kernel

/-- 5.6: the sweep leaves item 0 for item 1 after its last row. -/
theorem test_fillSweepRun :
    let s := mapping []
    let s := { s with mapper := { s.mapper with fillList := closedFront.fillList, cursor := some ⟨0, 2399⟩ } }
    let t := after (exec .fillSweepRun s)
    t.mapper.cursor = some ⟨1, 2304⟩ ∧ t.engine.queues.spine.length = 1 := by decide +kernel

/-- R99, R100: a posture notice in BLANK leads to a standalone apply with STANDALONE and SLOT_CHANGED. -/
theorem test_standaloneApply :
    let s := slot3 .ready closedFront
    let s := { s with
      store := { s.store with pendingMap := ⟨0, 0, 3, 0⟩ }
      posture := { s.posture with posture := .closedFront }
      mapper := { s.mapper with lastFrame := 500, repaintPending := false, notices := [.posture] } }
    let t := after (exec .postureNotice s)
    t.mapper.copySlot = 3 ∧ t.mapper.repaintPending = true
      ∧ t.reports.records.map (·.body) = [.applied 3 .closedFront 500 true false true false] := by decide +kernel

/-- 6.3: blending in both directions. -/
theorem test_blendGain :
    [(1024, 1400, 144), (1400, 1024, 144), (1024, 1400, 100), (1400, 1024, 100), (1024, 1400, 0), (1024, 1400, 256),
        (1400, 1024, 256)].map (fun p => blendGain p.1 p.2.1 p.2.2) =
      [1236, 1189, 1171, 1253, 1024, 1400, 1024] := by decide +kernel

/-- 6.5: scaling spine pixels. -/
theorem test_scaleComponent :
    [((800 : BitVec 10), 1236), (900, 1236), (0, 1236), (800, 1189), (1023, 512), (1, 512)].map
        (fun p => scaleComponent p.1 p.2) = [966, 1023, 0, 929, 512, 1] := by decide +kernel

/-- R108: GAIN_LOAD of FOLD columns 70 and 71. -/
theorem test_gainLoad :
    let t := after (exec .gainLoad (asking calm 0x20 [1, 70, 2, 0x0F, 0xFF, 0, 7]))
    (t.gain.fold[69], t.gain.fold[70], t.gain.fold[71], t.gain.flat[70]) = (1024, 4095, 7, 1024)
      ∧ lastResp (after (exec .gainLoad (asking calm 0x20 [1, 71, 2, 0, 0, 0, 7]))) = [0x05, 2, 0] := by decide +kernel

/-- 7.3: after F, the arbiter passes S when its queue is empty and grants K, with 1 + 0 beats owed. -/
theorem test_grant :
    let s := { calm with engine := { calm.engine with
      pointer := .front, queues := ⟨[fill8 .front], [], [fill8 .back]⟩, lastClose := some ⟨.front, 0, 0⟩ } }
    let t := after (exec .grant s)
    t.engine.pointer = .back ∧ t.engine.phase = .turnaround 1 ∧ t.engine.queues = ⟨[fill8 .front], [], []⟩ := by
  decide +kernel

/-- 7.6: the fourth refusal drops the spine run for row 700 with DRIVER_REJECT, frees slot 12 and leaves 4 references. -/
theorem test_reject_drops :
    let r : Run := ⟨.spine, 700, 0, 72, .copy 12 864 false 1800 (some 0), 4⟩
    let s := { transferring .window 4 with
      intake := { calm.intake with lines := calm.intake.lines.set 12 (some ⟨[], false, 1⟩) }
      gain := calm.gain.changeRefs 0 fun _ => 5 }
    let s := { s with
      engine := { s.engine with inTransfer := some r }
      posture := { s.posture with f := 1000 } }
    let t := after (exec .reject s)
    t.intake.lines[12] = none ∧ t.gain.buffers[0].refs = 4 ∧ t.engine.faultFlags = ⟨false, true, false⟩
      ∧ t.mapper.notices = [.drop .spine]
      ∧ t.reports.records.map (·.body) = [.fault .driverReject .spine 700 1000] := by decide +kernel

/-- 7.4: a refused window at attempt 1 with turnaround 2 gives 3 RETRY beats. -/
theorem test_reject_retries :
    let s := transferring .window 1
    let s := { s with engine := { s.engine with profileInUse := ⟨1, 0, 2⟩ } }
    (after (exec .reject s)).engine.phase = .retry 3 := by decide +kernel

/-- R135: a REJECT from driver F in a WINDOW of driver K is ignored. -/
theorem test_reject_other_driver :
    let s := { transferring .window 1 with outside := { calm.outside with lineFrom := some .front } }
    after (exec .reject s) = s ∧ after (exec (.holdLimit 0) s) = s := by decide +kernel

/-- R129, R130: a finished run of 8 pixels stands in driver K's GRAM from column 16. -/
theorem test_runFinished :
    let t := after (exec .runFinished (transferring .data 1))
    gramAt t.outside.panelBus .back 5 16 = some Pixel.black ∧ gramAt t.outside.panelBus .back 5 24 = none
      ∧ gramAt t.outside.panelBus .front 5 16 = none ∧ t.engine.phase = .idle := by decide +kernel

/-- 8.3: on-counts. -/
theorem test_onCount :
    [(600, 2000), (1023, 2048), (1, 2048), (8, 64), (7, 64)].map (fun p => onCountOf p.1 p.2) =
      [1173, 2048, 2, 1, 0] := by decide +kernel

/-- 8.6: shortening the period, period end A and period end B. -/
theorem test_periodEnd :
    let z : ZoneEmission := ⟨600, 600, 1173, 17, .live⟩
    let s := { calm with
      guard := { calm.guard with state := .live }
      emission := { calm.emission with zones := ⟨z, z, z⟩, period := 2000, pendingPeriod := some 1000 } }
    let a := after (exec .periodEnd s)
    let b := after (exec .periodEnd a)
    (a.emission.period, a.emission.zones.front.onCount, b.emission.zones.front.onCount) = (1000, 1173, 587) := by
  decide +kernel

/-- 8.5: ESTOP drops the level at once and offers one record; FAULT_CLEAR after the release clears the latch. -/
theorem test_estop :
    let z : ZoneEmission := ⟨600, 400, 782, 300, .live⟩
    let s := { calm with emission := { calm.emission with zones := ⟨z, z, z⟩ } }
    let a := after (exec .estopAsserted s)
    let b := after (exec .faultClear (asking (after (exec .estopReleased a)) 0x72 []))
    a.emission.zones.front = ⟨600, 0, 0, 300, .live⟩ ∧ a.emission.latch = true ∧ a.reports.records.length = 1
      ∧ b.emission.latch = false ∧ lastResp b = [0x05, 0, 2, 0, 0] := by decide +kernel

/-- R146, R148, R147: clamps, with the value as stored in the RESP. -/
theorem test_emissionCommands :
    lastResp (after (exec .emitSet (asking calm 0x40 [2, 0xFF, 0xFF]))) = [0x05, 0, 3, 2, 3, 0xFF]
      ∧ lastResp (after (exec .emitPeriod (asking calm 0x41 [0, 1]))) = [0x05, 0, 2, 0, 64]
      ∧ lastResp (after (exec .emitFade (asking calm 0x42 [0, 0]))) = [0x05, 0, 2, 0, 1] := by decide +kernel

/-- 9.4: with the reset codes, the 128th tick brings the hold timer to its limit and HOLD follows. -/
theorem test_guard :
    let s := { calm with guard := { calm.guard with state := .live, timer := some ⟨127, 128⟩ } }
    let t := after (exec .tick s)
    (after (exec .guardTimerExpiry s)).guard.state = .live
      ∧ (after (exec .guardTimerExpiry t)).guard.state = .hold
      ∧ (after (exec .guardTimerExpiry t)).guard.timer = some ⟨0, 1984⟩ := by decide +kernel

/-- R160: a blank code of 0 is stored as 1. -/
theorem test_guardSet :
    lastResp (after (exec .guardSet (asking calm 0x50 [0, 0]))) = [0x05, 0, 2, 0, 1] := by decide +kernel

/-- 31 INTAKE records, with FAULT and LOADER enabled (11.3). -/
def fullQueue : State :=
  { calm with reports := { calm.reports with
      records := List.replicate 31 ⟨.intake 0 1 0 0 none, false, 0⟩, attnMask := 0x60 } }

/-- 11.3 steps 1 to 5: admitted, lost, then admitted with LOST after a REPORT_READ(2). -/
theorem test_reports :
    let s1 := fullQueue.offer (.fault .driverStuck .front 0 0)
    let s2 := s1.offer (.guardChange .hold .live)
    let s4 := after (exec .reportRead (asking s2 0x60 [2]))
    let s5 := s4.offer (.posture .bent .opened 0 false false)
    fullQueue.reports.attn = false ∧ (s1.reports.occupancy, s1.reports.attn) = (512, true)
      ∧ s2.reports.lostPending = true ∧ (s4.reports.occupancy, (lastResp s4).length) = (480, 35)
      ∧ s5.reports.occupancy = 488 ∧ s5.reports.records.getLast?.map (·.lost) = some true := by decide +kernel

/-- R177: mode 2 is RANGE; LEVEL ends a pulse. -/
theorem test_attnSet :
    lastResp (after (exec .attnSet (asking calm 0x61 [0xFF, 2]))) = [0x05, 2, 0]
      ∧ (after (exec .attnSet (asking { calm with reports := { calm.reports with attnMode := .pulse, pulse := some 5 } }
          0x61 [0xFF, 0]))).reports.pulse = none := by decide +kernel

/-- 12.5: a MAP section naming 0, 0, 3 and 5 writes three entries, counts as failed and gives three notices. -/
theorem test_mapSection :
    let r := (slot3 .ready closedFront).applySection 7 [0, 0, 3, 5]
    r.1 = false ∧ r.2.store.pendingMap = ⟨0, 0, 3, 0⟩ ∧ r.2.mapper.notices.length = 3 := by decide +kernel

/-- 12.5: the LAYOUT section leaves slot 3 READY; with a grey strip of height 90 it leaves it EMPTY. -/
theorem test_layoutSection :
    let short : Entry := ⟨⟨0, 2304, 864, 90⟩, entry1.body⟩
    (calm.applySection 6 ([3, 0, 2, 1, 2] ++ entry0.bytes ++ entry1.bytes)).2.store.slots[3] = ⟨.ready, closedFront⟩
      ∧ (calm.applySection 6 ([3, 0, 2, 1, 2] ++ entry0.bytes ++ short.bytes)).2.store.slots[3] = emptySlot := by
  decide +kernel

/-- 12.5: from reset, the marker read leads to the header at address 1; the END header at 68 ends the run PARTIAL. -/
theorem test_loader :
    let s := after (exec .transactionStart (after (exec .busStopSeen State.reset)))
    let t := after (exec (.nvmReadComplete [0xC3] false) s)
    let u := { t with
      bus := { t.bus with slot := .active (.nvm 68 4) }
      loader := { t.loader with cursor := 68, sectionStart := 68, applied := 1, failed := 1, failureNoted := true } }
    let v := after (exec (.nvmReadComplete [0x3C, 0, 0, 0] false) u)
    t.bus.slot = .waiting (.nvm 1 4) ∧ v.loader.running = false
      ∧ v.reports.records.map (·.body) = [.loader .partialLoad 1 1 68] := by decide +kernel

/-- R168: STATUS_READ at reset, while the loader is RUNNING. -/
theorem test_statusRead :
    lastResp (after (exec .statusRead (asking State.reset 0x70 []))) =
      [0x05, 0, 19, 0, 0, 0, 0, 0, 0, 0, 2, 0, 1, 0, 0, 0, 0, 0, 0, 0, 0, 0] := by decide +kernel

/-- R165: an unlisted code is UNKNOWN, a wrong count LENGTH, a command under the loader BUSY. -/
theorem test_commandTests :
    lastResp (after (exec .unknownCommand (asking calm 0x08 []))) = [0x05, 6, 0]
      ∧ lastResp (after (exec .faceSet (asking calm 0x10 []))) = [0x05, 7, 0]
      ∧ lastResp (after (exec .faceSet (asking State.reset 0x10 [0]))) = [0x05, 1, 0] := by decide +kernel

/-- R169: SOFT_RESET sends its RESP and restores the reset values. -/
theorem test_softReset :
    let t := after (exec .softReset (asking (slot3 .ready closedFront) 0x71 []))
    lastResp t = [0x05, 0, 0] ∧ t.store = State.reset.store ∧ t.loader.running = true := by decide +kernel

/-! ### Witnesses: states and operands that meet the hypotheses of each obligation, clause by clause -/

theorem witness_IdleStepMovesClocksAlone :
    State.reset.pending = [] ∧ State.reset.bus.linesHigh = false ∧ State.reset.bus.linesReleased = true
      ∧ State.reset.bus.slot ≠ .empty ∧ lost.pending = [] ∧ lost.bus.slot = .active (.sensor 0x36 0x10)
      ∧ { calm.bus with state := .busy }.linesHigh = true ∧ calm.bus.slot = .empty
      ∧ (transferring (.retry 1) 1).engine.phase = .retry 1 ∧ (transferring .data 1).engine.phase = .data :=
  ⟨rfl, rfl, rfl, by decide, rfl, rfl, rfl, rfl, rfl, rfl⟩

theorem witness_ResetsGiveResetValues :
    (transferring .data 1).engine.phase = .data
      ∧ (transferring .data 1).engine.inTransfer = some { fill8 .back with attempts := 1 } ∧ 2 ≤ (fill8 .back).count
      ∧ lost.bus.slot = .active (.sensor 0x36 0x10) ∧ calm.bus.slot = .empty ∧ calm.engine.phase ≠ .data ∧ calm.outside.estop = false
      ∧ { calm with outside := { calm.outside with estop := true } }.outside.estop = true
      ∧ Asks (asking calm 0x71 []) (packet 0x71 []) [] 0x71 [] ∧ (asking calm 0x71 []).loader.running = false :=
  ⟨rfl, rfl, by decide, rfl, rfl, by decide, rfl, rfl, asks calm _ _ (by decide), rfl⟩

/-- Seven and eight packets. -/
def packets (n : Nat) : State := { calm with control := ⟨List.replicate n (packet 0x70 []), false⟩ }

theorem witness_PacketArrivals :
    (packets 7).control.queue.length < 8 ∧ 8 ≤ (packets 8).control.queue.length := by decide

theorem witness_CommandTests_unknown :
    (asking calm 0x08 []).control.queue = [packet 0x08 []]
      ∧ ∀ row ∈ commandSummary, row.code ≠ (packet 0x08 []).code :=
  ⟨rfl, by decide⟩

theorem witness_CommandTests_length :
    let row : CommandRow := ⟨.faceSet, 0x10, bytesAre 1, false⟩
    row ∈ commandSummary ∧ (asking calm 0x10 []).control.queue = [packet 0x10 []] ∧ (packet 0x10 []).code = row.code
      ∧ ¬ ((packet 0x10 []).count.toNat = (packet 0x10 []).operands.length
        ∧ row.fits (packet 0x10 []).operands = true) :=
  ⟨by simp [commandSummary], rfl, rfl, by decide⟩

theorem witness_CommandTests_busy :
    let row : CommandRow := ⟨.faceSet, 0x10, bytesAre 1, false⟩
    let p := packet 0x10 [0]
    (asking State.reset 0x10 [0]).control.queue = [p] ∧ p.code = row.code ∧ p.count.toNat = p.operands.length
      ∧ row.fits p.operands = true ∧ (asking State.reset 0x10 [0]).loader.running = true ∧ row.exempt = false :=
  ⟨rfl, rfl, rfl, rfl, rfl, rfl⟩

theorem witness_StatusReadPicture : Asks (asking State.reset 0x70 []) (packet 0x70 []) [] 0x70 [] :=
  asks _ _ _ (by decide)

/-- The estop latch is set, with ESTOP at a level. -/
def latched (estop : Bool) : State :=
  { calm with
    emission := { calm.emission with latch := true }
    outside := { calm.outside with estop := estop } }

theorem witness_FaultClearEffect :
    Asks (asking (latched true) 0x72 []) (packet 0x72 []) [] 0x72 []
      ∧ (asking (latched true) 0x72 []).loader.running = false
      ∧ (asking (latched true) 0x72 []).emission.latch = true ∧ (asking (latched true) 0x72 []).outside.estop = true
      ∧ Asks (asking (latched false) 0x72 []) (packet 0x72 []) [] 0x72 []
      ∧ (asking (latched false) 0x72 []).outside.estop = false :=
  ⟨asks _ _ _ (by decide), rfl, rfl, rfl, asks _ _ _ (by decide), rfl⟩

theorem witness_EditAdmission_range_state :
    ((.slotClear, 0x01, 1, false) : Instr × Byte × Nat × Bool) ∈ editCommands
      ∧ Asks (asking calm 0x01 [8]) (packet 0x01 [8]) [] 0x01 [8] ∧ 8 ≤ (8 : Byte).toNat
      ∧ Asks (asking calm 0x01 [0]) (packet 0x01 [0]) [] 0x01 [0] ∧ (asking calm 0x01 [0]).loader.running = false :=
  ⟨by simp [editCommands], asks _ _ _ (by decide), by decide, asks _ _ _ (by decide), rfl⟩

/-- Slot 7 is READY and named in the active map. -/
def mapped : State :=
  { calm with store := { (calm.writeSlot 7 identitySlot).store with active := ⟨7, 0, 0, 0⟩ } }

theorem witness_EditAdmission_inUse_empty :
    ((.entryDrop, 0x04, 1, true) : Instr × Byte × Nat × Bool) ∈ editCommands
      ∧ Asks (asking mapped 0x04 [7]) (packet 0x04 [7]) [] 0x04 [7] ∧ ((7 : Fin 8).val = (7 : Byte).toNat)
      ∧ (7 : Fin 8) ≠ 0 ∧ (asking mapped 0x04 [7]).store.inUse 7 = true
      ∧ Asks (asking calm 0x04 [1]) (packet 0x04 [1]) [] 0x04 [1] ∧ (asking calm 0x04 [1]).store.inUse 1 = false
      ∧ (asking calm 0x04 [1]).store.slots[(1 : Fin 8)].state = .empty :=
  ⟨by simp [editCommands], asks _ _ _ (by decide), rfl, by decide, by decide, asks _ _ _ (by decide), by decide, rfl⟩

theorem witness_SlotClearEffect :
    Asks (asking calm 0x01 [7]) (packet 0x01 [7]) [] 0x01 [7] ∧ (asking calm 0x01 [7]).loader.running = false
      ∧ (7 : Fin 8).val = (7 : Byte).toNat ∧ (7 : Fin 8) ≠ 0 ∧ (asking calm 0x01 [7]).store.inUse 7 = false :=
  ⟨asks _ _ _ (by decide), rfl, rfl, by decide, by decide⟩

theorem witness_SlotZonesEffect :
    let s := slot3 .editing closedFront
    Asks (asking s 0x02 [3, 0, 2, 1]) (packet 0x02 [3, 0, 2, 1]) [] 0x02 [3, 0, 2, 1]
      ∧ (3 : Fin 8).val = (3 : Byte).toNat ∧ s.store.inUse 3 = false ∧ s.store.slots[(3 : Fin 8)].state ≠ .empty
      ∧ closedFront.modes.front.code = (0 : Byte).toNat ∧ closedFront.modes.spine.code = (2 : Byte).toNat
      ∧ closedFront.modes.back.code = (1 : Byte).toNat
      ∧ Asks (asking s 0x02 [3, 3, 2, 1]) (packet 0x02 [3, 3, 2, 1]) [] 0x02 [3, 3, 2, 1] ∧ 2 < (3 : Byte).toNat :=
  ⟨asks _ _ _ (by decide), rfl, by decide, by decide, rfl, rfl, rfl, asks _ _ _ (by decide), by decide⟩

/-- Slot 3 holds a number of copies of one entry. -/
def crowded (n : Nat) : State := slot3 .editing ⟨closedFront.modes, List.replicate n entry0⟩

/-- ENTRY_PUT of entry 1 at an index. -/
def putting (n : Nat) (index : Byte) : State := asking (crowded n) 0x03 (3 :: index :: entry1.bytes)

theorem witness_EntryPutEffect :
    Asks (putting 2 1) (packet 0x03 (3 :: 1 :: entry1.bytes)) [] 0x03 (3 :: 1 :: entry1.bytes)
      ∧ (putting 2 1).loader.running = false ∧ (putting 2 1).store.inUse 3 = false
      ∧ (putting 2 1).store.slots[(3 : Fin 8)].state ≠ .empty ∧ entry1.inRange = true
      ∧ (1 : Byte).toNat < (putting 2 1).store.slots[(3 : Fin 8)].layout.entries.length
      ∧ (11 : Byte).toNat = (putting 11 11).store.slots[(3 : Fin 8)].layout.entries.length
      ∧ (putting 11 11).store.slots[(3 : Fin 8)].layout.entries.length < 12
      ∧ (12 : Byte).toNat = (putting 12 12).store.slots[(3 : Fin 8)].layout.entries.length
      ∧ (putting 2 3).store.slots[(3 : Fin 8)].layout.entries.length < (3 : Byte).toNat :=
  ⟨asks _ _ _ (by decide), rfl, by decide, by decide, by decide, by decide, rfl, by decide, rfl, by decide⟩

/-- ENTRY_PUT at index 1 of a kind, a width of 864 or 865 and the rest of entry 1. -/
def record (kind width0 : Byte) : List Byte :=
  [3, 1, kind, 0, 0, 9, 0, 3, width0, 0, 96, 0, 0, 0, 0, 0, 0, 200, 0, 200, 0, 200]

theorem witness_EntryPutFieldTests :
    Asks (asking (crowded 1) 0x03 (record 1 96)) (packet 0x03 (record 1 96)) [] 0x03 (record 1 96)
      ∧ (1 : Byte).toNat ≤ (crowded 1).store.slots[(3 : Fin 8)].layout.entries.length ∧ (1 : Byte).toNat < 12
      ∧ (3 : Byte).toNat * 256 + (96 : Byte).toNat = 864 ∧ (3 : Byte).toNat * 256 + (97 : Byte).toNat = 865
      ∧ Asks (asking (crowded 1) 0x03 (record 1 97)) (packet 0x03 (record 1 97)) [] 0x03 (record 1 97)
      ∧ Asks (asking (crowded 1) 0x03 (record 0 96)) (packet 0x03 (record 0 96)) [] 0x03 (record 0 96) :=
  ⟨asks _ _ _ (by decide), by decide, by decide, rfl, rfl, asks _ _ _ (by decide), asks _ _ _ (by decide)⟩

theorem witness_EntryDropEffect :
    Asks (asking (crowded 2) 0x04 [3]) (packet 0x04 [3]) [] 0x04 [3] ∧ (crowded 2).store.inUse 3 = false
      ∧ (crowded 2).store.slots[(3 : Fin 8)].state ≠ .empty
      ∧ (crowded 2).store.slots[(3 : Fin 8)].layout.entries = [entry0] ++ [entry0]
      ∧ (crowded 0).store.slots[(3 : Fin 8)].layout.entries = [] :=
  ⟨asks _ _ _ (by decide), by decide, by decide, rfl, rfl⟩

theorem witness_SlotCheckEffect :
    Asks (asking calm 0x05 [8]) (packet 0x05 [8]) [] 0x05 [8] ∧ 8 ≤ (8 : Byte).toNat
      ∧ Asks (asking calm 0x05 [7]) (packet 0x05 [7]) [] 0x05 [7] ∧ calm.store.slots[(7 : Fin 8)].state = .empty
      ∧ calm.store.slots[(0 : Fin 8)].state = .ready
      ∧ (slot3 .editing closedFront).store.slots[(3 : Fin 8)].layout.check = none
      ∧ (crowded 2).store.slots[(3 : Fin 8)].layout.check = some (.overlap 0) :=
  ⟨asks _ _ _ (by decide), by decide, asks _ _ _ (by decide), rfl, rfl, by decide +kernel, by decide +kernel⟩

theorem witness_SlotReadEffect :
    Asks (asking calm 0x06 [8, 0, 4]) (packet 0x06 [8, 0, 4]) [] 0x06 [8, 0, 4]
      ∧ Asks (asking calm 0x06 [0, 12, 4]) (packet 0x06 [0, 12, 4]) [] 0x06 [0, 12, 4] ∧ 12 ≤ (12 : Byte).toNat
      ∧ Asks (asking calm 0x06 [7, 11, 4]) (packet 0x06 [7, 11, 4]) [] 0x06 [7, 11, 4]
      ∧ calm.store.slots[(7 : Fin 8)].layout.entries = []
      ∧ calm.store.slots[(0 : Fin 8)].layout.entries.length ≤ (3 : Byte).toNat
      ∧ (2 : Byte).toNat < calm.store.slots[(0 : Fin 8)].layout.entries.length :=
  ⟨asks _ _ _ (by decide), asks _ _ _ (by decide), by decide, asks _ _ _ (by decide), rfl, by decide, by decide⟩

theorem witness_MapSetEffect :
    Asks (asking calm 0x07 [5, 0]) (packet 0x07 [5, 0]) [] 0x07 [5, 0] ∧ 4 < (5 : Byte).toNat
      ∧ Asks (asking calm 0x07 [0, 0]) (packet 0x07 [0, 0]) [] 0x07 [0, 0]
      ∧ Asks (asking calm 0x07 [1, 8]) (packet 0x07 [1, 8]) [] 0x07 [1, 8] ∧ 8 ≤ (8 : Byte).toNat
      ∧ Asks (asking calm 0x07 [4, 7]) (packet 0x07 [4, 7]) [] 0x07 [4, 7]
      ∧ calm.store.slots[(7 : Fin 8)].state ≠ .ready ∧ Posture.closedBack.code = (4 : Byte).toNat
      ∧ Posture.closedBack ≠ .unset ∧ (slot3 .ready closedFront).store.slots[(3 : Fin 8)].state = .ready :=
  ⟨asks _ _ _ (by decide), by decide, asks _ _ _ (by decide), asks _ _ _ (by decide), by decide,
    asks _ _ _ (by decide), by decide, rfl, by decide, rfl⟩

/-- Layouts in their ranges that pass, and that fail each stage of the check. -/
theorem witness_CheckPassesExactlyOnTheLaw :
    (∀ e ∈ closedFront.entries, e.inRange = true) ∧ closedFront.check = none
      ∧ Layout.check ⟨closedFront.modes, [⟨⟨1, 0, 864, 2400⟩, .fill Pixel.black⟩]⟩ = some (.entry .align 0)
      ∧ Layout.check ⟨closedFront.modes, [entry0, entry0]⟩ = some (.overlap 0)
      ∧ Layout.check ⟨closedFront.modes, [entry0]⟩ = some (.gap .front) := by decide +kernel

/-- The closed-front layout obeys the layout law. -/
theorem closedFront_law : LayoutLaw closedFront where
  inside := by
    intro e he
    simp only [closedFront, List.mem_cons, List.not_mem_nil, or_false] at he
    rcases he with rfl | rfl <;> exact ⟨.front, by decide, rfl⟩
  disjoint := by
    simp only [closedFront, List.pairwise_cons, List.mem_singleton, forall_eq, List.not_mem_nil, false_implies,
      implies_true, List.Pairwise.nil, and_true, entry0, entry1]
    intro col row h
    dsimp only [Covers] at h
    omega
  covered := by
    intro z hz
    cases z
    · decide +kernel
    · exact absurd hz (by decide)
    · exact absurd hz (by decide)

/-- The identity layout obeys the layout law. -/
theorem identity_law : LayoutLaw identityLayout where
  inside := by
    intro e he
    simp only [identityLayout, allZones, List.map_cons, List.map_nil, List.mem_cons, List.not_mem_nil, or_false] at he
    rcases he with rfl | rfl | rfl
    · exact ⟨.front, by decide, rfl⟩
    · exact ⟨.spine, by decide, rfl⟩
    · exact ⟨.back, by decide, rfl⟩
  disjoint := by
    simp only [identityLayout, allZones, List.map_cons, List.map_nil, identityEntry, Zone.firstCol, Zone.width,
      List.pairwise_cons, List.mem_cons, List.not_mem_nil, or_false, forall_eq_or_imp, forall_eq, false_implies,
      implies_true, List.Pairwise.nil, and_true]
    refine ⟨⟨?_, ?_⟩, ?_⟩ <;> intro col row h <;> dsimp only [Covers] at h <;> omega
  covered := by
    intro z _
    cases z <;> decide +kernel

theorem witness_LivePixelsCoveredExactlyOnce :
    LayoutLaw closedFront ∧ InZone .front 863 2399 ∧ closedFront.modes.get .front = .live
      ∧ InZone .spine 864 0 ∧ closedFront.modes.get .spine ≠ .live :=
  ⟨closedFront_law, by decide, rfl, by decide, by decide⟩

theorem calm_slots (i : Fin 8) : calm.store.slots[i] = if i = 0 then identitySlot else emptySlot := by
  revert i; decide +kernel

/-- The layouts of `calm` are lawful. -/
theorem calm_layouts : LayoutsLaw calm where
  slots :=
    { identity := rfl
      ready := by
        intro i hi
        rw [calm_slots] at hi ⊢
        by_cases h : i = 0
        · simp only [h, if_true]; exact ⟨identity_law, by decide⟩
        · simp only [h, if_false] at hi; exact absurd hi (by decide)
      empty := by
        intro i hi
        rw [calm_slots] at hi ⊢
        by_cases h : i = 0
        · simp only [h, if_true] at hi; exact absurd hi (by decide)
        · simp only [h, if_false]; rfl
      count := by intro i; rw [calm_slots]; split <;> decide
      ranges := by intro i; rw [calm_slots]; split <;> decide }
  maps := by
    intro i hi
    rw [calm_slots]
    by_cases h : i = 0
    · simp only [h, if_true]; rfl
    · exfalso; revert i; decide
  copyLaw := identity_law
  copyAligned := by decide
  copyRanges := by decide
  copyCount := by decide

theorem witness_EveryStepKeepsLayouts : LayoutsLaw calm ∧ step calm = .next calm.timePasses :=
  ⟨calm_layouts, rfl⟩

theorem witness_SampleTimerExpiry :
    State.reset.loader.running = true ∧ calm.loader.running = false ∧ calm.posture.outstanding = false
      ∧ calm.bus.slot = .empty
      ∧ { calm with bus := { calm.bus with slot := .waiting (.nvm 0 1) } }.bus.slot ≠ .empty :=
  ⟨rfl, rfl, rfl, rfl, by decide⟩

theorem witness_GoodSampleAngles : lost.bus.slot = .active (.sensor 0x36 0x10) := rfl

/-- A read of the sensor by a unit in a posture, with a candidate and its count. -/
def sampling (p : Posture) (candidate : Option PostureClass) (count : Nat) : State :=
  { lost with posture := { lost.posture with
      posture := p, sensorLost := false, y := none, candidate := candidate, dwellCount := count } }

theorem witness_GoodSampleAdoption_unset :
    (sampling .unset none 0).bus.slot = .active (.sensor 0x36 0x10)
      ∧ exec (.sensorReadComplete 0x3E 0x80 false) (sampling .unset none 0) =
          .next (after (exec (.sensorReadComplete 0x3E 0x80 false) (sampling .unset none 0)))
      ∧ (sampling .unset none 0).posture.posture = .unset :=
  ⟨rfl, rfl, rfl⟩

/-- 0x3E, 0x80 is f 1000, class BENT: the same class in BENT, adopted from OPEN at count 4, held at count 3. -/
theorem witness_GoodSampleAdoption_dwell :
    classify (sampling .bent none 0).posture.config.thresholds .bent 1000 = .bent
      ∧ classify (sampling .opened none 0).posture.config.thresholds .opened 1000 = .bent
      ∧ (after (exec (.sensorReadComplete 0x3E 0x80 false) (sampling .opened (some .bent) 3))).posture.f = 1000
      ∧ (sampling .opened (some .bent) 3).posture.config.dwell ≤ (sampling .opened (some .bent) 3).posture.dwellCount + 1
      ∧ (sampling .opened (some .bent) 2).posture.dwellCount + 1 <
          (sampling .opened (some .bent) 2).posture.config.dwell := by decide +kernel

/-- A posture and a facing. -/
def facing (p : Posture) (f : Facing) : State :=
  { calm with posture := { calm.posture with posture := p, facing := f } }

theorem witness_FaceSetEffect :
    Asks (asking calm 0x10 [2]) (packet 0x10 [2]) [] 0x10 [2] ∧ 2 ≤ (2 : Byte).toNat
      ∧ Asks (asking (facing .closedFront .front) 0x10 [1]) (packet 0x10 [1]) [] 0x10 [1]
      ∧ Facing.back.code = (1 : Byte).toNat ∧ (facing .closedFront .front).posture.posture = .closedFront
      ∧ Asks (asking (facing .closedBack .back) 0x10 [0]) (packet 0x10 [0]) [] 0x10 [0]
      ∧ Facing.front.code = (0 : Byte).toNat ∧ (facing .closedBack .back).posture.posture = .closedBack
      ∧ ¬ (calm.posture.posture = .closedFront ∧ Facing.back = .back)
      ∧ ¬ (calm.posture.posture = .closedBack ∧ Facing.back = .front) :=
  ⟨asks _ _ _ (by decide), by decide, asks _ _ _ (by decide), rfl, rfl, asks _ _ _ (by decide), rfl, rfl, by decide,
    by decide⟩

/-- The reset values of ANGLE_SET, with a closed_enter of 256 or 352. -/
def angles (ce0 : Byte) : List Byte := [1, 2, 1, ce0, 1, 96, 6, 160, 7, 32, 4, 0x36, 0x10]

theorem witness_AngleCommands :
    Asks (asking calm 0x11 (angles 95)) (packet 0x11 (angles 95)) [] 0x11 (angles 95)
      ∧ (1 : Byte).toNat * 256 + (95 : Byte).toNat < (1 : Byte).toNat * 256 + (96 : Byte).toNat
      ∧ Asks (asking calm 0x11 (angles 96)) (packet 0x11 (angles 96)) [] 0x11 (angles 96)
      ∧ ¬ (1 : Byte).toNat * 256 + (96 : Byte).toNat < (1 : Byte).toNat * 256 + (96 : Byte).toNat
      ∧ Asks (asking calm 0x12 [0xF8, 0]) (packet 0x12 [0xF8, 0]) [] 0x12 [0xF8, 0]
      ∧ ((0xF8 : Byte).toNat * 256 + (0 : Byte).toNat : Int) - 65536 = -2048
      ∧ Asks (asking calm 0x12 [8, 0]) (packet 0x12 [8, 0]) [] 0x12 [8, 0]
      ∧ ((8 : Byte).toNat * 256 + (0 : Byte).toNat : Int) = 2048 :=
  ⟨asks _ _ _ (by decide), by decide, asks _ _ _ (by decide), by decide, asks _ _ _ (by decide), by decide,
    asks _ _ _ (by decide), by decide⟩

theorem witness_EveryStepKeepsSensing : SensingLaw calm ∧ step calm = .next calm.timePasses where
  left :=
    { angles :=
        { rate := by decide, shift := by decide, thresholds := by decide, dwell := by decide, offset := by decide
          filter := by intro y h; cases h
          angle := by decide, weight := by decide, count := by decide, candidate := by decide, misses := by decide
          points := by decide }
      gains := { flat := by decide +kernel, fold := by decide +kernel, buffers := by decide +kernel } }
  right := rfl

/-- A request in the slot of a FREE bus. -/
def requested (slot : TransactionSlot) (waiting : Option Request) : State :=
  { calm with bus := { calm.bus with slot := slot, waitingRequest := waiting } }

theorem witness_BusWatchingAndAttempts :
    (requested (.waiting (.nvm 0 1)) none).bus.slot = .waiting (.nvm 0 1)
      ∧ (requested (.waiting (.nvm 0 1)) none).bus.state = .free ∧ lost.bus.slot = .active (.sensor 0x36 0x10)
      ∧ calm.bus.slot = .empty ∧ State.reset.bus.slot = .waiting (.nvm 0 1) ∧ State.reset.bus.state = .busy :=
  ⟨rfl, rfl, rfl, rfl, rfl, rfl⟩

theorem witness_AbortedSensorRead :
    lost.bus.slot = .active (.sensor 0x36 0x10)
      ∧ (requested (.waiting (.sensor 0x36 0x10)) none).bus.slot = .waiting (.sensor 0x36 0x10) :=
  ⟨rfl, rfl⟩

/-- The loader walks, with its read ACTIVE. -/
def walking (phase : LoaderPhase) (cursor address count : Nat) : State :=
  { calm with
    bus := { calm.bus with
      slot := .active (.nvm address count), state := .busy, linesReleased := false, linesHigh := false }
    loader := { calm.loader with running := true, cursor := cursor, sectionStart := cursor, phase := phase } }

theorem witness_AbortedNvmRead :
    (walking .marker 0 0 1).loader.running = true ∧ (walking .marker 0 0 1).bus.slot = .active (.nvm 0 1)
      ∧ State.reset.loader.running = true ∧ State.reset.bus.slot = .waiting (.nvm 0 1) :=
  ⟨rfl, rfl, rfl, rfl⟩

theorem witness_EveryStepKeepsRequests : RequestLaw calm ∧ step calm = .next calm.timePasses where
  left :=
    { sensor := by simp [calm, slotRequest, State.reset, PostureUnit.resetValue]
      nvm := by simp [calm, slotRequest, State.reset, SideBus.afterFirstRequest, SideBus.resetValue]
      behind := by intro r h; cases h
      phase := by decide
      header := by intro h; cases h
      marker := by intro h; cases h
      driven := by simp [calm, State.reset, SideBus.afterFirstRequest, SideBus.resetValue] }
  right := rfl

theorem witness_ImageReloadStartsRun :
    Asks (asking calm 0x80 []) (packet 0x80 []) [] 0x80 [] ∧ (asking calm 0x80 []).loader.running = false :=
  ⟨asks _ _ _ (by decide), rfl⟩

theorem witness_LoaderWalk_marker :
    (walking .marker 0 0 1).bus.slot = .active (.nvm 0 1) ∧ (walking .marker 0 0 1).bus.waitingRequest = none
      ∧ 8191 ≤ (walking .marker 0 0 1).loader.limit ∧ (walking .marker 0 0 1).loader.limit ≤ 65535
      ∧ (walking .marker 0 0 1).loader.phase = .marker ∧ (0xC2 : Byte) ≠ 0xC3 :=
  ⟨rfl, rfl, by decide, by decide, rfl, by decide⟩

/-- The header at 8000: a known body of 188 ends at the limit of 8191 and one of 189 past it; an unknown body of 184
leaves room for the header after it and one of 185 does not; a header at 8188 leaves none after a length of 0; the bytes
after a header at 65532 lie past 65535. -/
theorem witness_LoaderWalk_header :
    let s := walking .header 8000 8000 4
    s.bus.slot = .active (.nvm 8000 4) ∧ s.bus.waitingRequest = none ∧ s.loader.phase = .header
      ∧ s.loader.limit = 8191 ∧ (0x3D : Byte) ≠ 0x3C
      ∧ s.loader.limit < 8004 + ((0 : Byte).toNat * 256 + (189 : Byte).toNat) - 1
      ∧ ¬ s.loader.limit < 8004 + ((0 : Byte).toNat * 256 + (188 : Byte).toNat) - 1
      ∧ 1 ≤ (1 : Byte).toNat ∧ (7 : Byte).toNat ≤ 7 ∧ 7 < (8 : Byte).toNat
      ∧ 8004 + ((0 : Byte).toNat * 256 + (184 : Byte).toNat) + 3 ≤ s.loader.limit
      ∧ ¬ s.loader.limit < 8004 + ((0 : Byte).toNat * 256 + (185 : Byte).toNat) - 1
      ∧ s.loader.limit < 8004 + ((0 : Byte).toNat * 256 + (185 : Byte).toNat) + 3
      ∧ (walking .header 8188 8188 4).loader.limit < 8188 + 4 + 3
      ∧ (walking .header 65532 65532 4).loader.phase = .header ∧ ¬ 65532 + 4 ≤ 65535 := by decide

/-- A GUARD section of 2 bytes read as one; a GAIN section of 292 bytes has its first 64 read. -/
theorem witness_LoaderWalk_body :
    let s := walking (.body 4 2 []) 8 8 2
    let t := walking (.body 2 292 []) 8 8 64
    s.loader.phase = .body 4 2 [] ∧ s.bus.slot = .active (.nvm 8 2) ∧ 2 = min 64 (2 - 0)
      ∧ s.loader.cursor + 2 + 3 ≤ s.loader.limit
      ∧ (walking (.body 4 2 []) 8188 8188 2).loader.limit < 8188 + 2 + 3
      ∧ t.loader.phase = .body 2 292 [] ∧ t.bus.slot = .active (.nvm 8 64) ∧ 64 = min 64 (292 - 0) ∧ 0 + 64 < 292 := by
  decide

/-- The layout of chapter 1 as a LAYOUT section for slot 3, refused for slot 0, slot 8, slot 7 in a map and a count of 13,
and with a mode of 3. -/
theorem witness_LayoutSection :
    let bytes := entry0.bytes ++ entry1.bytes
    bytes.length = 20 * (2 : Byte).toNat ∧ 8 ≤ (8 : Byte).toNat ∧ 12 < (13 : Byte).toNat
      ∧ (List.replicate 260 (0 : Byte)).length = 20 * (13 : Byte).toNat
      ∧ (7 : Fin 8).val = (7 : Byte).toNat ∧ mapped.store.inUse 7 = true
      ∧ (3 : Fin 8).val = (3 : Byte).toNat ∧ calm.store.inUse 3 = false
      ∧ [closedFront.modes.front.code, closedFront.modes.spine.code, closedFront.modes.back.code] =
          [(0 : Byte).toNat, (2 : Byte).toNat, (1 : Byte).toNat]
      ∧ closedFront.entries.length = (2 : Byte).toNat
      ∧ (∀ j < (2 : Byte).toNat, parseEntry ((bytes.drop (20 * j)).take 20) = closedFront.entries[j]?)
      ∧ closedFront.check = none ∧ Layout.check ⟨closedFront.modes, [entry0]⟩ ≠ none ∧ 2 < (3 : Byte).toNat := by
  decide +kernel

/-- A body of each wrong length, and values at the limits of ANGLE and GAIN. -/
theorem witness_OtherSections :
    (List.replicate 14 (0 : Byte)).length ≠ 15 ∧ (List.replicate 291 (0 : Byte)).length ≠ 292
      ∧ ([1, 2, 3, 4] : List Byte)[4]? = none
      ∧ (∀ c : Fin 72, calm.gain.flat[c] < 65536 ∧ calm.gain.fold[c] < 65536)
      ∧ (∀ c : Fin 72, calm.gain.flat[c] ≤ 4095 ∧ calm.gain.fold[c] ≤ 4095) ∧ 2047 < 2048
      ∧ (7 : Byte).toNat * 256 + (255 : Byte).toNat = 2047 := by decide +kernel

/-- An intake state with a number of items. -/
def intaking (state : IntakeState) (items : Nat) : State :=
  { calm with intake := { calm.intake with
      state := state, reserved := decide (state = .receiving), queue := List.replicate items .frameEnd } }

theorem witness_FopenEffect :
    (intaking .idle 0).intake.state = .idle ∧ ¬ ((1801 : Word16).toNat ≤ 1800)
      ∧ (1 ≤ (1800 : Word16).toNat ∧ (1800 : Word16).toNat ≤ 1800 ∧ 1 ≤ (2400 : Word16).toNat
        ∧ (2400 : Word16).toNat ≤ 2400)
      ∧ 38 < (intaking .idle 39).intake.queue.length ∧ (intaking .idle 38).intake.queue.length ≤ 38
      ∧ (intaking .receiving 3).intake.state = .receiving ∧ (intaking .refusing 3).intake.state = .refusing := by
  decide

theorem witness_LineAccepted :
    receiving.intake.state = .receiving ∧ (2399 : Word16).toNat < receiving.intake.header.height
      ∧ receiving.intake.lastRow = none
      ∧ receiving.intake.queue.length + (if receiving.intake.reserved = true then 1 else 0) < 40
      ∧ receiving.intake.lines[(0 : Fin 32)] = none ∧ ∀ m : Fin 32, m < 0 → receiving.intake.lines[m] ≠ none := by
  decide +kernel

/-- Frame 17 is open, row 4 was the last accepted, and the queue holds a number of items. -/
def midFrame (items : Nat) : State :=
  { intaking .receiving items with intake := { (intaking .receiving items).intake with
      header := ⟨17, 1800, 2400⟩, lastRow := some 4 } }

theorem witness_LineDiscarded :
    (midFrame 3).intake.state = .receiving ∧ (midFrame 3).intake.header.height ≤ (2400 : Word16).toNat
      ∧ (4 : Word16).toNat < (midFrame 3).intake.header.height
      ∧ ¬ (∀ last, (midFrame 3).intake.lastRow = some last → last < (4 : Word16).toNat)
      ∧ (∀ last, (midFrame 39).intake.lastRow = some last → last < (5 : Word16).toNat)
      ∧ 40 ≤ (midFrame 39).intake.queue.length + (if (midFrame 39).intake.reserved = true then 1 else 0)
      ∧ (intaking .refusing 3).intake.state = .refusing ∧ calm.intake.state = .idle
      ∧ calm.intake.strayReported = false
      ∧ { calm with intake := { calm.intake with strayReported := true } }.intake.strayReported = true := by
  refine ⟨rfl, by decide, by decide, ?_, ?_, by decide, rfl, rfl, rfl, rfl⟩
  · intro h; exact absurd (h 4 rfl) (by decide)
  · intro last h; cases h; decide

theorem witness_FcloseEffect :
    (intaking .receiving 3).intake.state = .receiving ∧ (intaking .refusing 3).intake.state = .refusing
      ∧ (intaking .idle 3).intake.state = .idle :=
  ⟨rfl, rfl, rfl⟩

theorem witness_EveryStepKeepsQueues :
    step receiving = .next receiving.timePasses ∧ AccountLaw receiving ∧ CapacityLaw receiving where
  left := rfl
  right :=
    ⟨⟨by decide +kernel, by decide +kernel, by decide +kernel, by decide +kernel⟩,
      { commands := by decide +kernel, items := by decide +kernel, reservation := by decide +kernel
        runs := by intro d; cases d <;> decide +kernel
        records := by decide +kernel }⟩

/-- The mapper of `mapping` is free. -/
theorem mapping_free (queue : List IntakeItem) : MapperFree (mapping queue) where
  line := rfl
  waiting := by intro r h; cases h
  notices := rfl

/-- See `mapping_free`. -/
theorem calm_free : MapperFree calm where
  line := rfl
  waiting := by intro r h; cases h
  notices := rfl

theorem witness_FrameSetUpEffect :
    MapperFree (mapping [.frameStart 80 1800 2400]) ∧ (0 : Fin 8) ≠ (mapping []).mapper.copySlot
      ∧ MapperFree calm ∧ (0 : Fin 8) = calm.mapper.copySlot
      ∧ { calm.mapper with repaintPending := false }.repaintPending = false
      ∧ (calm.mapper.zoneRequests.front || calm.mapper.zoneRequests.spine || calm.mapper.zoneRequests.back) = false :=
  ⟨mapping_free _, by decide, calm_free, rfl, rfl, rfl⟩

/-- A run of the line in hand waits for driver K, or a fill run for it. -/
def stopped (r : Run) : State :=
  { mapping [] with mapper := { (mapping []).mapper with
      waitingRun := some r
      lineInHand := if r.isFill = true then none else some ⟨4, 10, 1⟩
      fillList := closedFront.fillList, cursor := some ⟨1, 2399⟩ } }

theorem witness_LineItemEffect :
    MapperFree (mapping [.line 4 10]) ∧ (mapping [.line 4 10]).mapper.frameInHand = some ⟨7, 1800, 2400, 1⟩
      ∧ LiesIn entry0.dst .front ∧ 0 < entry0.dst.width ∧ closedFront.modes.get .front = .live
      ∧ 2303 < 0 + entry0.dst.height ∧ 0 + entry0.dst.height ≤ 2304
      ∧ (let r : Run := ⟨.back, 10, 0, 2, .copy 4 0 false 1800 none, 0⟩
        (stopped r).mapper.waitingRun = some r ∧ r.isFill = false ∧ ((stopped r).engine.queues.get r.driver).length < 8
        ∧ (stopped r).mapper.lineInHand = some ⟨4, 10, 1⟩)
      ∧ (stopped (fill8 .front)).mapper.waitingRun = some (fill8 .front) ∧ (fill8 .front).isFill = true
      ∧ calm.mapper.waitingRun = none
      ∧ (stopped (fill8 .front)).mapper.fillList[1]? = some ⟨.front, 0, 2304, 864, 96, ⟨200, 200, 200⟩⟩ :=
  ⟨mapping_free _, rfl, by decide, by decide, rfl, by decide, by decide, ⟨rfl, rfl, by decide, rfl⟩, rfl, rfl, rfl,
    by decide +kernel⟩

/-- The queues F, S and K hold a number of runs each. -/
def queued (n : Nat) : State :=
  { mapping [] with engine := { calm.engine with queues :=
      ⟨List.replicate n (fill8 .front), List.replicate n (fill8 .spine), List.replicate n (fill8 .back)⟩ } }

/-- Row 10 gives one run for F: it fits 7 queued runs and waits behind 8. -/
theorem witness_LineExamined :
    let give := copyRun closedFront.modes ⟨7, 1800, 2400, 1⟩ 4 10
    let r : Run := ⟨.front, 10, 0, 864, .copy 4 0 false 1800 none, 0⟩
    (closedFront.entries.drop 0).filterMap give = [r]
      ∧ ((queued 7).engine.queues.get .front).length + [r].countP (fun r => r.driver = .front) ≤ 8
      ∧ ((queued 7).engine.queues.get .spine).length ≤ 8
      ∧ closedFront.entries.drop 0 = [] ++ entry0 :: [entry1] ∧ give entry0 = some r
      ∧ ((queued 8).engine.queues.get .front).length = 8 := by decide +kernel

theorem witness_FrameEndAndFillSweep :
    MapperFree (mapping [.frameEnd])
      ∧ (let s := { queued 7 with mapper := { (queued 7).mapper with
            fillList := closedFront.fillList, cursor := some ⟨1, 2399⟩ } }
        s.mapper.frameOpen = false ∧ s.mapper.lineInHand = none ∧ s.mapper.waitingRun = none ∧ s.intake.queue = []
        ∧ s.mapper.cursor = some ⟨1, 2399⟩
        ∧ s.mapper.fillList[1]? = some ⟨.front, 0, 2304, 864, 96, ⟨200, 200, 200⟩⟩
        ∧ (s.engine.queues.get .front).length < 8)
      ∧ 8 ≤ ((queued 8).engine.queues.get .front).length
      ∧ { calm.mapper with frameOpen := true }.frameOpen = true ∧ calm.mapper.cursor = none
      ∧ (stopped ⟨.back, 10, 0, 2, .copy 4 0 false 1800 none, 0⟩).mapper.lineInHand ≠ none
      ∧ (stopped (fill8 .front)).mapper.waitingRun ≠ none
      ∧ (mapping [.frameStart 80 1800 2400]).intake.queue = .frameStart 80 1800 2400 :: []
      ∧ LayoutLaw closedFront ∧ ∀ e ∈ closedFront.entries, 0 < e.dst.width :=
  ⟨mapping_free _, ⟨rfl, rfl, rfl, rfl, rfl, by decide +kernel, by decide⟩, by decide, rfl, rfl, by decide, by decide, rfl,
    closedFront_law, by decide⟩

/-- A notice is due, with the guard state held and the change-notice flag. -/
def noticed (n : Notice) (held : GuardState) (flag : Bool) : State :=
  { calm with mapper := { calm.mapper with notices := [n], guardHeld := held, changeNotice := flag } }

theorem witness_NoticesEffect :
    NoticeDue (noticed .posture .live false) .posture [] ∧ (noticed .posture .live false).mapper.guardHeld = .live
      ∧ NoticeDue (noticed .mapSet .hold false) .mapSet [] ∧ (noticed .mapSet .hold false).mapper.guardHeld ≠ .live
      ∧ NoticeDue (noticed (.guardState .hold) .live true) (.guardState .hold) []
      ∧ (noticed (.guardState .hold) .live true).mapper.changeNotice = true
      ∧ NoticeDue (noticed (.guardState .live) .blank false) (.guardState .live) []
      ∧ (noticed (.guardState .live) .blank false).mapper.guardHeld ≠ .live
      ∧ NoticeDue (noticed (.drop .back) .live false) (.drop .back) []
      ∧ .postureNotice ∈ noticeCommands ∧ noticeCommand .mapSet ≠ .postureNotice ∧ .lineItem ∈ itemCommands
      ∧ (stopped ⟨.back, 10, 0, 2, .copy 4 0 false 1800 none, 0⟩).mapper.lineInHand ≠ none
      ∧ ¬ MapperFree (noticed .posture .live false) ∧ itemCommand .frameEnd ≠ .lineItem :=
  ⟨⟨rfl, rfl⟩, rfl, ⟨rfl, rfl⟩, by decide, ⟨rfl, rfl⟩, rfl, ⟨rfl, rfl⟩, by decide, ⟨rfl, rfl⟩,
    by decide, by decide, by decide, by decide, fun h => (by cases h.notices), by decide⟩

theorem witness_StandaloneApplyEffect :
    calm.mapper.repaintPending = true ∧ calm.store.pendingMap.slotFor calm.posture.posture = calm.mapper.copySlot
      ∧ { calm.mapper with repaintPending := false }.repaintPending = false :=
  ⟨rfl, rfl, rfl⟩

theorem witness_OnCount_and_BlendedGain : (1023 : Nat) ≤ 1023 ∧ (256 : Nat) ≤ 256 ∧ (1024 : Nat) ≤ 1400 := by decide

/-- GAIN_LOAD operands for two values. -/
def gains (table first : Byte) (v : Nat) : List Byte :=
  table :: first :: 2 :: [v, 7].flatMap fun v => [BitVec.ofNat 8 (v / 256), BitVec.ofNat 8 v]

theorem witness_TableCommands :
    Asks (asking calm 0x20 (gains 1 70 4095)) (packet 0x20 (gains 1 70 4095)) [] 0x20 (gains 1 70 4095)
      ∧ (∀ v ∈ [4095, 7], v ≤ 4095) ∧ [4095, 7].length = (2 : Byte).toNat ∧ (70 : Byte).toNat + (2 : Byte).toNat ≤ 72
      ∧ (∀ c : Fin 72, calm.gain.flat[c] =
          if (1 : Byte) = 0 ∧ (70 : Byte).toNat ≤ c.val ∧ c.val < (70 : Byte).toNat + (2 : Byte).toNat then
            [4095, 7].getD (c.val - 70) 0 else calm.gain.flat[c])
      ∧ (∀ c : Fin 72, ((calm.gain.fold.set 70 4095).set 71 7)[c] =
          if (1 : Byte) = 1 ∧ (70 : Byte).toNat ≤ c.val ∧ c.val < (70 : Byte).toNat + (2 : Byte).toNat then
            [4095, 7].getD (c.val - 70) 0 else calm.gain.fold[c])
      ∧ Asks (asking calm 0x20 (gains 1 71 4095)) (packet 0x20 (gains 1 71 4095)) [] 0x20 (gains 1 71 4095)
      ∧ 72 < (71 : Byte).toNat + (2 : Byte).toNat
      ∧ Asks (asking calm 0x21 [7, 255, 8, 0]) (packet 0x21 [7, 255, 8, 0]) [] 0x21 [7, 255, 8, 0]
      ∧ (7 : Byte).toNat * 256 + (255 : Byte).toNat < (8 : Byte).toNat * 256 + (0 : Byte).toNat
      ∧ Asks (asking calm 0x21 [8, 0, 8, 0]) (packet 0x21 [8, 0, 8, 0]) [] 0x21 [8, 0, 8, 0]
      ∧ Asks (asking calm 0x30 [2, 3, 3, 3]) (packet 0x30 [2, 3, 3, 3]) [] 0x30 [2, 3, 3, 3]
      ∧ Zone.back.code = (2 : Byte).toNat
      ∧ Asks (asking calm 0x30 [3, 3, 3, 3]) (packet 0x30 [3, 3, 3, 3]) [] 0x30 [3, 3, 3, 3] :=
  ⟨asks _ _ _ (by decide), by decide, rfl, by decide, by decide +kernel, by decide +kernel, asks _ _ _ (by decide),
    by decide, asks _ _ _ (by decide), by decide, asks _ _ _ (by decide), asks _ _ _ (by decide), rfl,
    asks _ _ _ (by decide)⟩

/-- An IDLE bus with its pointer at K and queue K alone, F alone or S alone holding runs. -/
def waitingFor (d : Driver) (close : Option LastClose) : State :=
  { calm with engine := { calm.engine with
      queues := (calm.engine.queues.set d [fill8 d]), lastClose := close } }

theorem witness_GrantsAndWindows :
    (waitingFor .front none).engine.phase = .idle ∧ (waitingFor .front none).engine.queues.get .front = [fill8 .front]
      ∧ Zone.front = (waitingFor .front none).engine.pointer.next
      ∧ Zone.spine = (waitingFor .spine none).engine.pointer.next.next
      ∧ (waitingFor .spine none).engine.queues.get Zone.back.next = []
      ∧ Zone.back = (waitingFor .back none).engine.pointer
      ∧ (waitingFor .back none).engine.queues.get Zone.back.next = []
      ∧ (waitingFor .back none).engine.queues.get Zone.back.next.next = []
      ∧ (waitingFor .front none).engine.lastClose = none
      ∧ (waitingFor .front (some ⟨.spine, 3, 3⟩)).engine.lastClose = some ⟨.spine, 3, 3⟩ ∧ 1 + 3 - 3 ≠ 0
      ∧ (transferring (.turnaround 1) 0).engine.phase = .turnaround 1
      ∧ (transferring (.retry 1) 1).engine.phase = .retry 1 ∧ (transferring .window 1).engine.phase = .window
      ∧ calm.engine.queues = ⟨[], [], []⟩ ∧ calm.engine.phase = .idle ∧ (transferring .data 1).engine.phase = .data
      ∧ (transferring .window 1).engine.inTransfer = some { fill8 .back with attempts := 1 } := by decide +kernel

theorem witness_RejectAndHoldLimit :
    (transferring .window 3).engine.phase = .window
      ∧ (transferring .window 3).engine.inTransfer = some { fill8 .back with attempts := 3 } ∧ 3 < 4
      ∧ (transferring .window 4).engine.inTransfer = some { fill8 .back with attempts := 4 }
      ∧ (transferring .data 1).engine.phase ≠ .window ∧ (transferring .data 1).engine.phase = .data
      ∧ calm.engine.phase ≠ .window ∧ calm.engine.phase ≠ .data ∧ (transferring .window 3).outside.lineFrom = none
      ∧ { calm.outside with lineFrom := some Zone.front }.lineFrom = some .front ∧ Zone.front ≠ (fill8 .back).driver := by
  decide +kernel

theorem witness_RunFinishedWritesGram :
    (transferring .data 1).engine.phase = .data
      ∧ (transferring .data 1).engine.inTransfer = some { fill8 .back with attempts := 1 } ∧ (8 : Nat) % 2 = 0
      ∧ (let r : Run := ⟨.spine, 700, 0, 72, .copy 12 864 false 1800 (some 0), 1⟩
        r.source.snapshot?.isSome = true ∧ r.firstCol + r.count ≤ 72) := by decide +kernel

/-- Nothing is held in `calm`. -/
theorem calm_held : heldRuns calm.engine = [] := rfl

theorem witness_EveryStepKeepsReferences : ReferencesLaw calm ∧ step calm = .next calm.timePasses where
  left :=
    { lines := by
        intro n
        have hn : calm.intake.lines[n] = none := by revert n; decide +kernel
        rw [hn]
        exact ⟨rfl, rfl⟩
      snapshots := by
        intro n
        have hn : calm.gain.buffers[n].refs = 0 := by revert n; decide +kernel
        rw [hn]
        exact ⟨rfl, by decide⟩
      waitingLine := by intro r h; cases h
      spineOnly := by
        intro r h
        rw [calm_held] at h
        rcases h with h | h <;> cases h
      room := by decide
      transfer :=
        { own := by intro d r h; cases d <;> cases h
          waits := by intro r h; cases h
          busy := by decide
          window := by intro h; rcases h with h | h <;> cases h
          retry := by intro n h; cases h
          turnaround := by intro n h; cases h } }
  right := rfl

theorem witness_EveryStepKeepsRunsInTheirZones : RunsLaw calm ∧ step calm = .next calm.timePasses where
  left :=
    { layouts := calm_layouts
      held := by intro r h; rw [calm_held] at h; cases h
      waiting := by intro r h; cases h
      fills := by intro item h; cases h
      cursor := by intro c h; cases h }
  right := rfl

theorem witness_EmissionCommandsAndEstop :
    Asks (asking calm 0x40 [2, 3, 255]) (packet 0x40 [2, 3, 255]) [] 0x40 [2, 3, 255]
      ∧ Zone.back.code = (2 : Byte).toNat
      ∧ Asks (asking calm 0x40 [3, 0, 0]) (packet 0x40 [3, 0, 0]) [] 0x40 [3, 0, 0] ∧ 3 ≤ (3 : Byte).toNat
      ∧ Asks (asking calm 0x41 [0, 63]) (packet 0x41 [0, 63]) [] 0x41 [0, 63]
      ∧ Asks (asking calm 0x42 [4, 0]) (packet 0x42 [4, 0]) [] 0x42 [4, 0]
      ∧ calm.emission.latch = false ∧ (latched true).emission.latch = true :=
  ⟨asks _ _ _ (by decide), rfl, asks _ _ _ (by decide), by decide, asks _ _ _ (by decide), asks _ _ _ (by decide), rfl,
    rfl⟩

theorem witness_EveryStepKeepsEmissionAndGuard :
    step calm = .next calm.timePasses ∧ EmissionLaw calm ∧ GuardLaw calm.guard where
  left := rfl
  right :=
    ⟨{ zones := by intro z; cases z <;> exact ⟨by decide, by decide, by decide, by decide⟩
       together := by intro z; cases z <;> rfl
       period := by decide
       pendingPeriod := by intro p h; cases h
       step := by decide
       latched := by intro h; cases h
       estop := by intro h; cases h },
      { codes := by decide
        live := by intro h; cases h
        hold := by intro h; cases h
        blank := fun _ => rfl }⟩

/-- A guard state with its timer. -/
def guarded (state : GuardState) (timer : Option GuardTimer) : State :=
  { calm with guard := { calm.guard with state := state, timer := timer } }

theorem witness_GuardAndTick :
    calm.guard.timer = none ∧ (guarded .live (some ⟨127, 128⟩)).guard.timer = some ⟨127, 128⟩ ∧ 127 < 128
      ∧ (guarded .live (some ⟨128, 128⟩)).guard.timer = some ⟨128, 128⟩
      ∧ (guarded .live (some ⟨128, 128⟩)).guard.state = .live ∧ 128 ≤ 128
      ∧ (guarded .hold (some ⟨1984, 1984⟩)).guard.state = .hold ∧ calm.guard.state ≠ .live
      ∧ Asks (asking calm 0x50 [0, 0]) (packet 0x50 [0, 0]) [] 0x50 [0, 0] :=
  ⟨rfl, rfl, by decide, rfl, rfl, by decide, rfl, by decide, asks _ _ _ (by decide)⟩

theorem witness_ReportsAndAttention :
    ReportBody.size (.fault .estop .front 0 0) ≤ 512 - fullQueue.reports.occupancy
      ∧ 512 - (fullQueue.offer (.fault .estop .front 0 0)).reports.occupancy <
          ReportBody.size (.guardChange .live .hold)
      ∧ Asks (asking calm 0x60 [0]) (packet 0x60 [0]) [] 0x60 [0] ∧ calm.reports.records = []
      ∧ fullQueue.reports.records ≠ [] ∧ (fullQueue.reports.records.take 8).length = min 8 31
      ∧ Asks (asking calm 0x61 [0xFF, 0]) (packet 0x61 [0xFF, 0]) [] 0x61 [0xFF, 0]
      ∧ Asks (asking calm 0x61 [0xFF, 1]) (packet 0x61 [0xFF, 1]) [] 0x61 [0xFF, 1]
      ∧ Asks (asking calm 0x61 [0xFF, 2]) (packet 0x61 [0xFF, 2]) [] 0x61 [0xFF, 2] ∧ 1 < (2 : Byte).toNat
      ∧ calm.reports.attnMode = .level
      ∧ { calm.reports with attnMode := AttnMode.pulse }.attnMode = .pulse :=
  ⟨by decide +kernel, by decide +kernel, asks _ _ _ (by decide), rfl, by decide, by decide,
    asks _ _ _ (by decide), asks _ _ _ (by decide), asks _ _ _ (by decide), by decide, rfl, rfl⟩

end Sys2Proof.Tests
end

section
/-! What the check of a layout finds, in the words of the layout law (R15 to R18), and what the law's areas prove. -/

namespace Sys2Proof.Machine

open Sys2Proof.Safety

/-! ### Zones and rectangles -/

theorem Zone.firstCol_add_width_le (z : Zone) : z.firstCol + z.width ≤ panelCols := by
  cases z <;> decide

theorem Zone.forall_iff {P : Zone → Prop} : (∀ z, P z) ↔ P .front ∧ P .spine ∧ P .back :=
  ⟨fun h => ⟨h _, h _, h _⟩, fun ⟨hf, hs, hb⟩ z => by cases z <;> assumption⟩

theorem zoneOfCol_eq_iff {col : Nat} (z : Zone) (h : col < panelCols) :
    zoneOfCol col = z ↔ z.firstCol ≤ col ∧ col < z.firstCol + z.width := by
  simp only [panelCols] at h
  unfold zoneOfCol
  cases z <;> simp only [Zone.firstCol, Zone.width] <;> split_ifs <;> simp <;> omega

/-- The zones share no pixel (R1). -/
theorem Zone.eq_of_inZone {z z' : Zone} {col row : Nat} (h : InZone z col row) (h' : InZone z' col row) : z = z' := by
  have hcol : col < panelCols := h.2.1.trans_le z.firstCol_add_width_le
  exact ((zoneOfCol_eq_iff z hcol).mpr ⟨h.1, h.2.1⟩).symm.trans ((zoneOfCol_eq_iff z' hcol).mpr ⟨h'.1, h'.2.1⟩)

theorem Rect.inRaster_iff (r : Rect) : r.inRaster = true ↔ r.col + r.width ≤ 1800 ∧ r.row + r.height ≤ 2400 := by
  simp only [Rect.inRaster, decide_eq_true_eq]
  rfl

theorem Rect.inRaster_of_liesIn {r : Rect} {z : Zone} (h : LiesIn r z) : r.inRaster = true :=
  r.inRaster_iff.mpr ⟨h.2.1.trans z.firstCol_add_width_le, h.2.2⟩

/-- The zone by the first and the last column is the zone the rectangle lies inside (R2). -/
theorem Rect.zone?_eq_some_iff {r : Rect} (z : Zone) (hr : r.inRaster = true) (hw : 0 < r.width) :
    r.zone? = some z ↔ LiesIn r z := by
  obtain ⟨hcols, hrows⟩ := r.inRaster_iff.mp hr
  have first := zoneOfCol_eq_iff z (col := r.col) (by simp only [panelCols]; omega)
  have last := zoneOfCol_eq_iff z (col := r.endCol - 1) (by simp only [panelCols, Rect.endCol]; omega)
  have both : r.zone? = some z ↔ zoneOfCol r.col = z ∧ zoneOfCol (r.endCol - 1) = z := by
    unfold Rect.zone?
    split_ifs with h
    · simp [← h]
    · simp only [false_iff, not_and]
      exact fun h1 h2 => h (h1.trans h2.symm)
  rw [both, first, last]
  simp only [Rect.endCol, LiesIn, panelRows]
  omega

theorem Rect.zone?_eq_none_iff {r : Rect} (hr : r.inRaster = true) (hw : 0 < r.width) :
    r.zone? = none ↔ ∀ z, ¬ LiesIn r z := by
  rw [Option.eq_none_iff_forall_ne_some]
  exact forall_congr' fun z => not_congr (Rect.zone?_eq_some_iff z hr hw)

/-- Two rectangles that hold pixels overlap exactly when they share one (R16). -/
theorem Rect.overlaps_iff {a b : Rect} (ha : 0 < a.width ∧ 0 < a.height) (hb : 0 < b.width ∧ 0 < b.height) :
    a.overlaps b = true ↔ ∃ col row, Covers a col row ∧ Covers b col row := by
  rw [Rect.overlaps, decide_eq_true_eq]
  simp only [Rect.endCol, Rect.endRow, Covers]
  constructor
  · intro h
    exact ⟨max a.col b.col, max a.row b.row, by omega, by omega⟩
  · rintro ⟨col, row, h⟩
    omega

/-! ### One entry (R15) -/

/-- A stored entry holds pixels (R6). -/
theorem Entry.size_pos {e : Entry} (h : e.inRange = true) : 0 < e.dst.width ∧ 0 < e.dst.height := by
  simp only [Entry.inRange, Bool.and_eq_true, decide_eq_true_eq] at h
  omega

theorem Entry.sourceInRaster_iff (e : Entry) :
    e.sourceInRaster = true ↔ ∀ srcCol srcRow mirror, e.body = .copy srcCol srcRow mirror →
      srcCol + e.dst.width ≤ 1800 ∧ srcRow + e.dst.height ≤ 2400 := by
  unfold Entry.sourceInRaster
  cases hb : e.body with
  | copy srcCol srcRow mirror =>
    simp only [Rect.inRaster_iff, EntryBody.copy.injEq]
    exact ⟨fun h _ _ _ ⟨h1, h2, _⟩ => h1 ▸ h2 ▸ h, fun h => h _ _ _ ⟨rfl, rfl, rfl⟩⟩
  | fill colour => simp

/-- BOUNDS, in the words of R15. -/
theorem Entry.outside_iff (e : Entry) :
    (1800 < e.dst.col + e.dst.width ∨ 2400 < e.dst.row + e.dst.height
      ∨ ∃ srcCol srcRow mirror, e.body = .copy srcCol srcRow mirror
        ∧ (1800 < srcCol + e.dst.width ∨ 2400 < srcRow + e.dst.height))
      ↔ ¬ (e.dst.inRaster = true ∧ e.sourceInRaster = true) := by
  rw [Rect.inRaster_iff, Entry.sourceInRaster_iff]
  constructor
  · rintro (h | h | ⟨c, r, m, hb, h⟩) ⟨hdst, hsrc⟩
    · omega
    · omega
    · have := hsrc c r m hb
      omega
  · intro h
    by_contra hno
    push Not at hno
    exact h ⟨⟨hno.1, hno.2.1⟩, hno.2.2⟩

/-- The test that an entry fails first is the reason found (R15). -/
theorem Entry.fault_eq_some_iff (modes : PerZone ZoneMode) {e : Entry} (hw : 0 < e.dst.width) (why : EntryFault) :
    e.fault modes = some why ↔ EntryFails modes e why := by
  unfold EntryFails Entry.fault
  simp only [e.outside_iff]
  by_cases hin : e.dst.inRaster = true ∧ e.sourceInRaster = true
  case neg => cases why <;> simp [hin]
  by_cases hodd : e.dst.col % 2 = 1 ∨ e.dst.width % 2 = 1
  case pos => cases why <;> simp [hin, hodd]
  cases hz : e.dst.zone? with
  | none =>
    have nowhere := (Rect.zone?_eq_none_iff hin.1 hw).mp hz
    cases why <;> simp [hin, hodd, nowhere]
  | some z =>
    have lies := (Rect.zone?_eq_some_iff z hin.1 hw).mp hz
    have only : ∀ z', LiesIn e.dst z' → z' = z := fun z' h =>
      Option.some.inj (((Rect.zone?_eq_some_iff z' hin.1 hw).mpr h).symm.trans hz)
    have live : (∃ z', LiesIn e.dst z' ∧ modes.get z' ≠ .live) ↔ modes.get z ≠ .live :=
      ⟨fun ⟨z', h, hm⟩ => only z' h ▸ hm, fun hm => ⟨z, lies, hm⟩⟩
    have somewhere : ¬ ∀ z', ¬ LiesIn e.dst z' := fun h => h z lies
    cases why <;> simp only [hin, hodd, live, somewhere] <;> simp

theorem Entry.fault_eq_none_iff (modes : PerZone ZoneMode) {e : Entry} (hw : 0 < e.dst.width) :
    e.fault modes = none ↔ ∀ why, ¬ EntryFails modes e why := by
  rw [Option.eq_none_iff_forall_ne_some]
  exact forall_congr' fun why => not_congr (e.fault_eq_some_iff modes hw why)

/-- An entry that passes: in the raster and the source space, aligned, inside one LIVE zone (R15). -/
theorem Entry.fault_eq_none_iff_lies (modes : PerZone ZoneMode) {e : Entry} (hw : 0 < e.dst.width) :
    e.fault modes = none ↔
      e.sourceInRaster = true ∧ (e.dst.col % 2 = 0 ∧ e.dst.width % 2 = 0)
        ∧ ∃ z, LiesIn e.dst z ∧ modes.get z = .live := by
  constructor
  · intro h
    unfold Entry.fault at h
    split at h
    · cases h
    · rename_i hin
      have hin := Classical.not_not.mp hin
      split at h
      · cases h
      · rename_i hodd
        split at h
        · cases h
        · rename_i z hz
          split at h
          · rename_i hlive
            exact ⟨hin.2, by omega, z, (Rect.zone?_eq_some_iff z hin.1 hw).mp hz, hlive⟩
          · cases h
  · rintro ⟨hs, heven, z, hz, hlive⟩
    have hin := Rect.inRaster_of_liesIn hz
    have hodd : ¬ (e.dst.col % 2 = 1 ∨ e.dst.width % 2 = 1) := by omega
    unfold Entry.fault
    simp [hin, hs, hodd, (Rect.zone?_eq_some_iff z hin hw).mpr hz, hlive]

/-! ### The three stages -/

theorem firstEntryFault_eq_none_iff (modes : PerZone ZoneMode) (es : List Entry) (k : Nat) :
    firstEntryFault modes es k = none ↔ ∀ e ∈ es, e.fault modes = none := by
  induction es generalizing k with
  | nil => simp [firstEntryFault]
  | cons e es ih =>
    unfold firstEntryFault
    cases h : e.fault modes <;> simp [h, ih]

/-- The first stage names the first entry in list order that fails (R15). -/
theorem firstEntryFault_eq_some_iff (modes : PerZone ZoneMode) (es : List Entry) (k : Nat) (f : CheckFailure) :
    firstEntryFault modes es k = some f ↔
      ∃ i e why, f = .entry why (k + i) ∧ es[i]? = some e ∧ e.fault modes = some why
        ∧ ∀ j < i, ∀ e', es[j]? = some e' → e'.fault modes = none := by
  induction es generalizing k with
  | nil => simp [firstEntryFault]
  | cons e es ih =>
    unfold firstEntryFault
    cases h : e.fault modes with
    | some why =>
      constructor
      · rintro ⟨⟩
        exact ⟨0, e, why, rfl, rfl, h, by simp⟩
      · rintro ⟨i, e', why', rfl, he', hf, before⟩
        cases i with
        | zero =>
          cases he'
          rw [h] at hf
          cases hf
          rfl
        | succ i => exact absurd (before 0 (by omega) e rfl) (by simp [h])
    | none =>
      dsimp only
      rw [ih]
      constructor
      · rintro ⟨i, e', why, rfl, he', hf, before⟩
        refine ⟨i + 1, e', why, by rw [Nat.add_right_comm, Nat.add_assoc], he', hf, fun j hj e'' he'' => ?_⟩
        cases j with
        | zero => cases he''; exact h
        | succ j => exact before j (by omega) e'' he''
      · rintro ⟨i, e', why, rfl, he', hf, before⟩
        cases i with
        | zero => cases he'; exact absurd hf (by simp [h])
        | succ i =>
          exact ⟨i, e', why, by rw [Nat.add_right_comm, Nat.add_assoc], he', hf,
            fun j hj e'' he'' => before (j + 1) (by omega) e'' he''⟩

/-- The entries at two indexes overlap, by the second stage's test. -/
def EntriesOverlap (es : List Entry) (i j : Nat) : Prop :=
  ∃ a b, es[i]? = some a ∧ es[j]? = some b ∧ a.dst.overlaps b.dst = true

theorem exists_entriesOverlap_cons_zero (e : Entry) (es : List Entry) :
    (∃ j, 0 < j ∧ EntriesOverlap (e :: es) 0 j) ↔ (es.any fun e' => e.dst.overlaps e'.dst) = true := by
  rw [List.any_eq_true]
  constructor
  · rintro ⟨j, hj, a, b, ha, hb, h⟩
    obtain ⟨j, rfl⟩ : ∃ m, j = m + 1 := ⟨j - 1, by omega⟩
    cases ha
    exact ⟨b, List.mem_of_getElem? hb, h⟩
  · rintro ⟨b, hb, h⟩
    obtain ⟨j, hj⟩ := List.mem_iff_getElem?.mp hb
    exact ⟨j + 1, by omega, e, b, rfl, hj, h⟩

theorem firstOverlap_eq_none_iff (es : List Entry) (k : Nat) :
    firstOverlap es k = none ↔ es.Pairwise fun a b => ¬ a.dst.overlaps b.dst = true := by
  induction es generalizing k with
  | nil => simp [firstOverlap]
  | cons e es ih =>
    unfold firstOverlap
    rw [List.pairwise_cons, ← ih (k + 1)]
    cases h : es.any fun e' => e.dst.overlaps e'.dst with
    | true =>
      obtain ⟨b, hb, hab⟩ := List.any_eq_true.mp h
      simp only [if_true, reduceCtorEq, false_iff, not_and]
      exact fun hnone => absurd hab (hnone b hb)
    | false =>
      have none : ∀ b ∈ es, ¬ e.dst.overlaps b.dst = true := by simpa using h
      simp only [Bool.false_eq_true, if_false]
      exact ⟨fun hrest => ⟨none, hrest⟩, And.right⟩

/-- The second stage names the lowest index that overlaps a later one (R16). -/
theorem firstOverlap_eq_some_iff (es : List Entry) (k : Nat) (f : CheckFailure) :
    firstOverlap es k = some f ↔
      ∃ i, f = .overlap (k + i) ∧ (∃ j, i < j ∧ EntriesOverlap es i j)
        ∧ ∀ i' < i, ∀ j, i' < j → ¬ EntriesOverlap es i' j := by
  induction es generalizing k with
  | nil => simp [firstOverlap, EntriesOverlap]
  | cons e es ih =>
    have head := exists_entriesOverlap_cons_zero e es
    unfold firstOverlap
    cases h : es.any fun e' => e.dst.overlaps e'.dst with
    | true =>
      have later := head.mpr h
      constructor
      · rintro ⟨⟩
        exact ⟨0, rfl, later, by simp⟩
      · rintro ⟨i, rfl, -, before⟩
        cases i with
        | zero => rfl
        | succ i =>
          obtain ⟨j, hj, hm⟩ := later
          exact absurd hm (before 0 (by omega) j hj)
    | false =>
      have alone : ∀ j, 0 < j → ¬ EntriesOverlap (e :: es) 0 j := fun j hj hm => by
        rw [head.mp ⟨j, hj, hm⟩] at h
        cases h
      simp only [Bool.false_eq_true, if_false]
      rw [ih]
      constructor
      · rintro ⟨i, rfl, ⟨j, hj, hm⟩, before⟩
        refine ⟨i + 1, by rw [Nat.add_right_comm, Nat.add_assoc], ⟨j + 1, by omega, hm⟩, fun i' hi' j' hj' => ?_⟩
        cases i' with
        | zero => exact alone j' hj'
        | succ i' =>
          obtain ⟨j', rfl⟩ : ∃ m, j' = m + 1 := ⟨j' - 1, by omega⟩
          exact before i' (by omega) j' (by omega)
      · rintro ⟨i, rfl, ⟨j, hj, hm⟩, before⟩
        cases i with
        | zero => exact absurd hm (alone j hj)
        | succ i =>
          obtain ⟨j, rfl⟩ : ∃ m, j = m + 1 := ⟨j - 1, by omega⟩
          exact ⟨i, by rw [Nat.add_right_comm, Nat.add_assoc], ⟨j, by omega, hm⟩,
            fun i' hi' j' hj' => before (i' + 1) (by omega) (j' + 1) (by omega)⟩

theorem firstGap_eq_none_iff (l : Layout) :
    firstGap l = none ↔ ∀ z, l.modes.get z = .live → areaInZone l.entries z = z.area := by
  simp only [firstGap, Option.map_eq_none_iff, List.find?_eq_none, decide_eq_true_eq, not_and,
    Classical.not_not]
  exact ⟨fun h z => h z z.mem_allZones, fun h z _ => h z⟩

/-- A search through the zones finds the first of them, in the order of their codes. -/
theorem find?_allZones_eq_some_iff (p : Zone → Bool) (z : Zone) :
    allZones.find? p = some z ↔ p z = true ∧ ∀ z' : Zone, z'.code < z.code → p z' = false := by
  cases hf : p .front <;> cases hs : p .spine <;> cases z <;>
    simp [allZones, Zone.forall_iff, Zone.code, hf, hs]

/-- The third stage names the first LIVE zone, in zone order, that is short (R17). -/
theorem firstGap_eq_some_iff (l : Layout) (f : CheckFailure) :
    firstGap l = some f ↔
      ∃ z, f = .gap z ∧ (l.modes.get z = .live ∧ areaInZone l.entries z ≠ z.area)
        ∧ ∀ z' : Zone, z'.code < z.code → ¬ (l.modes.get z' = .live ∧ areaInZone l.entries z' ≠ z'.area) := by
  simp only [firstGap, Option.map_eq_some_iff, find?_allZones_eq_some_iff, decide_eq_true_eq, decide_eq_false_iff_not]
  exact ⟨fun ⟨z, h, hf⟩ => ⟨z, hf.symm, h⟩, fun ⟨z, hf, h⟩ => ⟨z, h, hf.symm⟩⟩

/-! ### The whole check (R14 to R18) -/

theorem Layout.check_eq_entry_iff (l : Layout) (why : EntryFault) (i : Nat) :
    l.check = some (.entry why i) ↔ firstEntryFault l.modes l.entries 0 = some (.entry why i) := by
  unfold Layout.check
  cases h1 : firstEntryFault l.modes l.entries 0 with
  | some f => rfl
  | none =>
    cases h2 : firstOverlap l.entries 0 with
    | some f =>
      obtain ⟨j, rfl, -⟩ := (firstOverlap_eq_some_iff ..).mp h2
      simp
    | none =>
      cases h3 : firstGap l with
      | some f =>
        obtain ⟨z, rfl, -⟩ := (firstGap_eq_some_iff ..).mp h3
        simp
      | none => simp

theorem Layout.check_eq_overlap_iff (l : Layout) (i : Nat) :
    l.check = some (.overlap i) ↔
      firstEntryFault l.modes l.entries 0 = none ∧ firstOverlap l.entries 0 = some (.overlap i) := by
  unfold Layout.check
  cases h1 : firstEntryFault l.modes l.entries 0 with
  | some f =>
    obtain ⟨j, e, why, rfl, -⟩ := (firstEntryFault_eq_some_iff ..).mp h1
    simp
  | none =>
    cases h2 : firstOverlap l.entries 0 with
    | some f => simp
    | none =>
      cases h3 : firstGap l with
      | some f =>
        obtain ⟨z, rfl, -⟩ := (firstGap_eq_some_iff ..).mp h3
        simp
      | none => simp

theorem Layout.check_eq_gap_iff (l : Layout) (z : Zone) :
    l.check = some (.gap z) ↔
      firstEntryFault l.modes l.entries 0 = none ∧ firstOverlap l.entries 0 = none ∧ firstGap l = some (.gap z) := by
  unfold Layout.check
  cases h1 : firstEntryFault l.modes l.entries 0 with
  | some f =>
    obtain ⟨j, e, why, rfl, -⟩ := (firstEntryFault_eq_some_iff ..).mp h1
    simp
  | none =>
    cases h2 : firstOverlap l.entries 0 with
    | some f =>
      obtain ⟨j, rfl, -⟩ := (firstOverlap_eq_some_iff ..).mp h2
      simp
    | none => simp

theorem Layout.check_eq_none_iff (l : Layout) :
    l.check = none ↔
      firstEntryFault l.modes l.entries 0 = none ∧ firstOverlap l.entries 0 = none ∧ firstGap l = none := by
  unfold Layout.check
  cases firstEntryFault l.modes l.entries 0 <;> cases firstOverlap l.entries 0 <;> simp

section

variable {l : Layout} (sized : ∀ e ∈ l.entries, 0 < e.dst.width ∧ 0 < e.dst.height)

include sized

/-- The stages' findings about the entries, in the words of the statements. -/
theorem Layout.entriesPass_iff : EntriesPass l ↔ firstEntryFault l.modes l.entries 0 = none := by
  rw [firstEntryFault_eq_none_iff]
  exact forall₂_congr fun e he => (e.fault_eq_none_iff l.modes (sized e he).1).symm

/-- See `Layout.entriesPass_iff`. -/
theorem Layout.entriesMeet_iff (i j : Nat) : EntriesMeet l i j ↔ EntriesOverlap l.entries i j := by
  refine exists₂_congr fun a b => ?_
  constructor
  · rintro ⟨ha, hb, h⟩
    exact ⟨ha, hb,
      (Rect.overlaps_iff (sized a (List.mem_of_getElem? ha)) (sized b (List.mem_of_getElem? hb))).mpr h⟩
  · rintro ⟨ha, hb, h⟩
    exact ⟨ha, hb,
      (Rect.overlaps_iff (sized a (List.mem_of_getElem? ha)) (sized b (List.mem_of_getElem? hb))).mp h⟩

/-- See `Layout.entriesPass_iff`. -/
theorem Layout.disjoint_iff :
    (l.entries.Pairwise fun a b => ∀ col row, ¬ (Covers a.dst col row ∧ Covers b.dst col row)) ↔
      firstOverlap l.entries 0 = none := by
  rw [firstOverlap_eq_none_iff]
  refine List.Pairwise.iff_of_mem fun {a b} ha hb => ?_
  rw [Rect.overlaps_iff (sized a ha) (sized b hb)]
  push Not
  rfl

/-- See `Layout.entriesPass_iff`. -/
theorem Layout.not_entriesMeet_iff :
    (∀ i j, i < j → ¬ EntriesMeet l i j) ↔ firstOverlap l.entries 0 = none := by
  cases h : firstOverlap l.entries 0 with
  | none =>
    have apart := (firstOverlap_eq_none_iff ..).mp h
    simp only [iff_true]
    intro i j hij hm
    obtain ⟨a, b, ha, hb, hab⟩ := (Layout.entriesMeet_iff sized i j).mp hm
    obtain ⟨hi, rfl⟩ := List.getElem?_eq_some_iff.mp ha
    obtain ⟨hj, rfl⟩ := List.getElem?_eq_some_iff.mp hb
    exact List.pairwise_iff_getElem.mp apart i j hi hj hij hab
  | some f =>
    obtain ⟨i, -, ⟨j, hij, hm⟩, -⟩ := (firstOverlap_eq_some_iff ..).mp h
    simp only [reduceCtorEq, iff_false]
    exact fun none => none i j hij ((Layout.entriesMeet_iff sized i j).mpr hm)

/-- The area by the model's zones is the area of the entries that lie inside the zone (R17). -/
theorem Layout.zoneShort_iff (hpass : EntriesPass l) (z : Zone) :
    ZoneShort l z ↔ l.modes.get z = .live ∧ areaInZone l.entries z ≠ z.area := by
  have same : l.entries.filter (fun e => decide (LiesIn e.dst z)) =
      l.entries.filter fun e => decide (e.dst.zone? = some z) := by
    refine List.filter_congr fun e he => ?_
    have hw := (sized e he).1
    obtain ⟨-, -, z', hz', -⟩ :=
      (e.fault_eq_none_iff_lies l.modes hw).mp ((e.fault_eq_none_iff l.modes hw).mpr (hpass e he))
    exact decide_eq_decide.mpr (Rect.zone?_eq_some_iff z (Rect.inRaster_of_liesIn hz') hw).symm
  unfold ZoneShort
  rw [same]
  rfl

/-- The check passes exactly on the layout law, aligned and with its sources in the source space (R18). -/
theorem Layout.check_eq_none_iff_law :
    l.check = none ↔ LayoutLaw l ∧ Aligned l
      ∧ ∀ e ∈ l.entries, ∀ srcCol srcRow mirror, e.body = .copy srcCol srcRow mirror →
          srcCol + e.dst.width ≤ 1800 ∧ srcRow + e.dst.height ≤ 2400 := by
  have lies : (∀ e ∈ l.entries, e.fault l.modes = none) ↔ ∀ e ∈ l.entries,
      e.sourceInRaster = true ∧ (e.dst.col % 2 = 0 ∧ e.dst.width % 2 = 0)
        ∧ ∃ z, LiesIn e.dst z ∧ l.modes.get z = .live :=
    forall₂_congr fun e he => e.fault_eq_none_iff_lies l.modes (sized e he).1
  rw [Layout.check_eq_none_iff, firstEntryFault_eq_none_iff, ← Layout.disjoint_iff sized, firstGap_eq_none_iff, lies]
  constructor
  · rintro ⟨each, apart, full⟩
    exact ⟨⟨fun e he => (each e he).2.2, apart, full⟩, fun e he => (each e he).2.1,
      fun e he => e.sourceInRaster_iff.mp (each e he).1⟩
  · rintro ⟨law, aligned, source⟩
    exact ⟨fun e he => ⟨e.sourceInRaster_iff.mpr (source e he), aligned e he, law.inside e he⟩,
      law.disjoint, law.covered⟩

end

/-- Settles O18: each outcome of the check is the finding of one of its three stages. -/
theorem checkPassesExactlyOnTheLaw : Obligations.CheckPassesExactlyOnTheLaw := by
  intro l ranges
  have sized : ∀ e ∈ l.entries, 0 < e.dst.width ∧ 0 < e.dst.height := fun e he => Entry.size_pos (ranges e he)
  have fails : ∀ {j : Nat} {e : Entry}, l.entries[j]? = some e → ∀ why,
      e.fault l.modes = some why ↔ EntryFails l.modes e why := fun he why =>
    Entry.fault_eq_some_iff l.modes (sized _ (List.mem_of_getElem? he)).1 why
  have passes : ∀ {j : Nat} {e : Entry}, l.entries[j]? = some e →
      (e.fault l.modes = none ↔ ∀ why, ¬ EntryFails l.modes e why) := fun he =>
    Entry.fault_eq_none_iff l.modes (sized _ (List.mem_of_getElem? he)).1
  refine ⟨fun why i => ?_, fun i => ?_, fun z => ?_, Layout.check_eq_none_iff_law sized⟩
  · rw [Layout.check_eq_entry_iff, firstEntryFault_eq_some_iff]
    constructor
    · rintro ⟨j, e, why', hf, he, hfault, before⟩
      rw [Nat.zero_add] at hf
      cases hf
      exact ⟨e, he, (fails he _).mp hfault, fun j hj e' he' => (passes he').mp (before j hj e' he')⟩
    · rintro ⟨e, he, hfails, before⟩
      exact ⟨i, e, why, by rw [Nat.zero_add], he, (fails he _).mpr hfails,
        fun j hj e' he' => (passes he').mpr (before j hj e' he')⟩
  · rw [Layout.check_eq_overlap_iff, ← Layout.entriesPass_iff sized, firstOverlap_eq_some_iff]
    simp only [Layout.entriesMeet_iff sized, Nat.zero_add, CheckFailure.overlap.injEq]
    exact and_congr_right fun _ => ⟨fun ⟨_, hi, h⟩ => hi ▸ h, fun h => ⟨i, rfl, h⟩⟩
  · rw [Layout.check_eq_gap_iff, ← Layout.entriesPass_iff sized, ← Layout.not_entriesMeet_iff sized,
      firstGap_eq_some_iff]
    refine and_congr_right fun hpass => and_congr_right fun _ => ?_
    simp only [Layout.zoneShort_iff sized hpass, CheckFailure.gap.injEq]
    exact ⟨fun ⟨_, hz, h⟩ => hz ▸ h, fun h => ⟨z, rfl, h⟩⟩

/-! ### What the law's areas prove (R17, R18) -/

/-- The pixels of a rectangle. -/
def Rect.pixels (r : Rect) : Finset (Nat × Nat) :=
  Finset.Ico r.col (r.col + r.width) ×ˢ Finset.Ico r.row (r.row + r.height)

/-- The pixels of a zone. -/
def Zone.pixels (z : Zone) : Finset (Nat × Nat) :=
  Finset.Ico z.firstCol (z.firstCol + z.width) ×ˢ Finset.range panelRows

theorem Rect.mem_pixels (r : Rect) (col row : Nat) : (col, row) ∈ r.pixels ↔ Covers r col row := by
  simp [Rect.pixels, and_assoc]

theorem Zone.mem_pixels (z : Zone) (col row : Nat) : (col, row) ∈ z.pixels ↔ InZone z col row := by
  simp [Zone.pixels, and_assoc]

theorem Rect.card_pixels (r : Rect) : r.pixels.card = r.area := by
  simp [Rect.pixels, Rect.area]

theorem Zone.card_pixels (z : Zone) : z.pixels.card = z.area := by
  simp [Zone.pixels, Zone.area]

theorem Rect.pixels_subset {r : Rect} {z : Zone} (h : LiesIn r z) : r.pixels ⊆ z.pixels := by
  rintro ⟨col, row⟩ hp
  rw [Rect.mem_pixels] at hp
  rw [Zone.mem_pixels]
  simp only [LiesIn, Covers, InZone] at *
  omega

/-- The pixels that some entry of a list covers. -/
def coveredPixels (es : List Entry) : Finset (Nat × Nat) := es.foldr (fun e covered => e.dst.pixels ∪ covered) ∅

theorem mem_coveredPixels (es : List Entry) (col row : Nat) :
    (col, row) ∈ coveredPixels es ↔ ∃ e ∈ es, Covers e.dst col row := by
  induction es with
  | nil => simp [coveredPixels]
  | cons e es ih =>
    rw [show coveredPixels (e :: es) = e.dst.pixels ∪ coveredPixels es from rfl]
    simp [ih, Rect.mem_pixels]

/-- Entries that share no pixel cover as many pixels as their areas sum to. -/
theorem card_coveredPixels (es : List Entry)
    (apart : es.Pairwise fun a b => ∀ col row, ¬ (Covers a.dst col row ∧ Covers b.dst col row)) :
    (coveredPixels es).card = (es.map fun e => e.dst.area).sum := by
  induction es with
  | nil => rfl
  | cons e es ih =>
    obtain ⟨head, tail⟩ := List.pairwise_cons.mp apart
    have disjoint : Disjoint e.dst.pixels (coveredPixels es) := by
      rw [Finset.disjoint_left]
      rintro ⟨col, row⟩ he hes
      obtain ⟨b, hb, hcov⟩ := (mem_coveredPixels ..).mp hes
      exact head b hb col row ⟨(Rect.mem_pixels ..).mp he, hcov⟩
    rw [show coveredPixels (e :: es) = e.dst.pixels ∪ coveredPixels es from rfl,
      Finset.card_union_of_disjoint disjoint, ih tail, Rect.card_pixels]
    simp

/-- An entry that the law places and that counts toward a zone's area has its pixels in that zone. -/
theorem Rect.pixels_subset_of_zone? {r : Rect} {z z' : Zone} (lies : LiesIn r z') (hz : r.zone? = some z) :
    r.pixels ⊆ z.pixels := by
  rcases Nat.eq_zero_or_pos r.width with h0 | hw
  · simp [Rect.pixels, h0]
  · exact Rect.pixels_subset ((Rect.zone?_eq_some_iff z (Rect.inRaster_of_liesIn lies) hw).mp hz)

/-- Under the law the entries of a LIVE zone cover all of it: as many pixels of it as it has (R17). -/
theorem Layout.exists_covers_of_live {l : Layout} (law : LayoutLaw l) {z : Zone} {col row : Nat} (hp : InZone z col row)
    (live : l.modes.get z = .live) : ∃ e ∈ l.entries, Covers e.dst col row := by
  have inZone : coveredPixels (l.entries.filter fun e => e.dst.zone? = some z) ⊆ z.pixels := by
    rintro ⟨c, r⟩ hcov
    obtain ⟨e, he, hcov⟩ := (mem_coveredPixels ..).mp hcov
    obtain ⟨hmem, hz⟩ := List.mem_filter.mp he
    obtain ⟨z', lies, -⟩ := law.inside e hmem
    exact Rect.pixels_subset_of_zone? lies (of_decide_eq_true hz) ((Rect.mem_pixels ..).mpr hcov)
  have many : z.pixels.card ≤ (coveredPixels (l.entries.filter fun e => e.dst.zone? = some z)).card := by
    rw [card_coveredPixels _ (law.disjoint.sublist List.filter_sublist), Zone.card_pixels]
    exact (law.covered z live).ge
  have covered : (col, row) ∈ coveredPixels (l.entries.filter fun e => e.dst.zone? = some z) := by
    rw [Finset.eq_of_subset_of_card_le inZone many]
    exact (Zone.mem_pixels ..).mpr hp
  obtain ⟨e, he, hcov⟩ := (mem_coveredPixels ..).mp covered
  exact ⟨e, (List.mem_filter.mp he).1, hcov⟩

/-- Settles O19: a counting argument on the zone's pixels gives an entry, disjointness that it is the only one. -/
theorem livePixelsCoveredExactlyOnce : Obligations.LivePixelsCoveredExactlyOnce := by
  intro l law z col row hp
  constructor
  · intro live
    obtain ⟨e, he, hcov⟩ := Layout.exists_covers_of_live law hp live
    obtain ⟨i, hi, rfl⟩ := List.mem_iff_getElem.mp he
    refine ⟨⟨i, hi⟩, hcov, fun j hj => ?_⟩
    have apart := List.pairwise_iff_getElem.mp law.disjoint
    rcases Nat.lt_trichotomy j.val i with h | h | h
    · exact absurd ⟨hj, hcov⟩ (apart j i j.isLt hi h col row)
    · exact Fin.ext h
    · exact absurd ⟨hcov, hj⟩ (apart i j hi j.isLt h col row)
  · intro dark e he hcov
    obtain ⟨z', lies, live⟩ := law.inside e he
    have hp' : InZone z' col row := by
      simp only [LiesIn, Covers, InZone] at *
      omega
    exact dark (Zone.eq_of_inZone hp hp' ▸ live)

end Sys2Proof.Machine
end

section
/-! The layouts' law, slot by slot: what a store may hold, and that each operation on the store keeps it (R3 to R25). -/

namespace Sys2Proof.Machine

open Sys2Proof.Safety

/-! ### What a slot may hold (R3 to R6, R18) -/

/-- The law of one slot: what `SlotLaw` says of each. -/
structure SlotGood (slot : Slot) : Prop where
  ready : slot.state = .ready → LayoutLaw slot.layout ∧ Aligned slot.layout
  empty : slot.state = .empty → slot.layout = emptyLayout
  count : slot.layout.entries.length ≤ 12
  ranges : ∀ e ∈ slot.layout.entries, e.inRange = true

theorem slotLaw_iff (st : LayoutStore) :
    SlotLaw st ↔ st.slots[0] = identitySlot ∧ ∀ i : Fin 8, SlotGood st.slots[i] :=
  ⟨fun h => ⟨h.identity, fun i => ⟨h.ready i, h.empty i, h.count i, h.ranges i⟩⟩,
    fun ⟨h0, h⟩ => ⟨h0, fun i => (h i).ready, fun i => (h i).empty, fun i => (h i).count, fun i => (h i).ranges⟩⟩

/-- A layout being edited need only keep its entries in their ranges and to at most 12 (R5, R6). -/
theorem SlotGood.editing {l : Layout} (count : l.entries.length ≤ 12) (ranges : ∀ e ∈ l.entries, e.inRange = true) :
    SlotGood ⟨.editing, l⟩ :=
  ⟨by simp, by simp, count, ranges⟩

/-- A layout of stored entries that passes the check may be READY (R18). -/
theorem SlotGood.checked {l : Layout} (count : l.entries.length ≤ 12) (ranges : ∀ e ∈ l.entries, e.inRange = true)
    (passed : l.check = none) : SlotGood ⟨.ready, l⟩ := by
  obtain ⟨law, aligned, -⟩ := (Layout.check_eq_none_iff_law fun e he => Entry.size_pos (ranges e he)).mp passed
  exact ⟨fun _ => ⟨law, aligned⟩, by simp, count, ranges⟩

theorem emptySlot_good : SlotGood emptySlot :=
  ⟨by simp [emptySlot], fun _ => rfl, by simp [emptySlot, emptyLayout], by simp [emptySlot, emptyLayout]⟩

theorem identitySlot_good : SlotGood identitySlot :=
  .checked (by decide) (by decide) (by decide)

/-! ### What a store may hold (R4, R24) -/

/-- The slot law and the map law of a store. -/
structure StoreGood (st : LayoutStore) : Prop where
  identity : st.slots[0] = identitySlot
  slots : ∀ i : Fin 8, SlotGood st.slots[i]
  maps : MapLaw st

/-- The layouts' law: a good store, and a frame copy that a READY slot may hold (R84). -/
theorem layoutsLaw_iff (s : State) : LayoutsLaw s ↔ StoreGood s.store ∧ SlotGood ⟨.ready, s.mapper.copy⟩ := by
  constructor
  · intro h
    obtain ⟨h0, hi⟩ := (slotLaw_iff _).mp h.slots
    exact ⟨⟨h0, hi, h.maps⟩, fun _ => ⟨h.copyLaw, h.copyAligned⟩, by simp, h.copyCount, h.copyRanges⟩
  · rintro ⟨⟨h0, hi, hm⟩, hc⟩
    exact ⟨(slotLaw_iff _).mpr ⟨h0, hi⟩, hm, (hc.ready rfl).1, (hc.ready rfl).2, hc.ranges, hc.count⟩

theorem getElem_set_fin {α : Type} {n : Nat} (v : Vector α n) (i j : Fin n) (a : α) :
    (v.set i a)[j] = if j = i then a else v[j] := by
  simp only [Fin.getElem_fin, Vector.getElem_set, Fin.ext_iff, eq_comm]

/-- One slot of a store is written. -/
def LayoutStore.setSlot (st : LayoutStore) (i : Fin 8) (slot : Slot) : LayoutStore :=
  { st with slots := st.slots.set i slot }

@[simp] theorem LayoutStore.setSlot_slots (st : LayoutStore) (i j : Fin 8) (slot : Slot) :
    (st.setSlot i slot).slots[j] = if j = i then slot else st.slots[j] :=
  getElem_set_fin st.slots i j slot

@[simp] theorem LayoutStore.setSlot_inUse (st : LayoutStore) (i j : Fin 8) (slot : Slot) :
    (st.setSlot i slot).inUse j = st.inUse j := rfl

/-- A slot other than slot 0 is written; while a map names it, it stays READY (R4, R24). -/
theorem StoreGood.setSlot {st : LayoutStore} (h : StoreGood st) {i : Fin 8} (hi : i ≠ 0) {slot : Slot}
    (good : SlotGood slot) (named : st.inUse i = true → slot.state = .ready) : StoreGood (st.setSlot i slot) where
  identity := by
    have := st.setSlot_slots i 0 slot
    rw [if_neg hi.symm] at this
    exact this.trans h.identity
  slots j := by
    rw [st.setSlot_slots]
    split
    · exact good
    · exact h.slots j
  maps j hj := by
    rw [st.setSlot_inUse] at hj
    rw [st.setSlot_slots]
    split
    · next e => exact named (e ▸ hj)
    · exact h.maps j hj

/-- Slot 0 is never EDITING (R4). -/
theorem StoreGood.ne_zero_of_editing {st : LayoutStore} (h : StoreGood st) {i : Fin 8}
    (editing : st.slots[i].state = .editing) : i ≠ 0 := by
  rintro rfl
  have ready : st.slots[0].state = .ready := congrArg Slot.state h.identity
  exact absurd (editing.symm.trans ready) (by decide)

/-- A slot that passes the tests of an edit may be written with any slot that is good of itself (R8). -/
theorem StoreGood.setSlot_of_editTests {st : LayoutStore} (h : StoreGood st) {n : Nat} {i : Fin 8}
    (tests : st.editTests n = .ok i) {slot : Slot} (good : SlotGood slot) : StoreGood (st.setSlot i slot) := by
  obtain ⟨hin, hn, free⟩ := (st.editTests_ok n i).mp tests
  refine h.setSlot (fun h0 => hn ?_) good fun used => ?_
  · rw [← hin, h0]; rfl
  · rw [free] at used; cases used

/-- A successful edit whose change keeps entries in their ranges and to 12 keeps the store's law (R8). -/
theorem StoreGood.edit {st : LayoutStore} (h : StoreGood st) {n : Nat} {needs : Bool}
    {change : Layout → Option Layout} {slot : Slot} {st' : LayoutStore}
    (ok : st.edit n needs change = .ok (slot, st'))
    (keeps : ∀ l l', change l = some l' → SlotGood ⟨.editing, l⟩ → SlotGood ⟨.editing, l'⟩) : StoreGood st' := by
  obtain ⟨i, l, hin, hn, free, -, hl, -, rfl⟩ := st.edit_ok n needs change slot st' ok
  exact h.setSlot_of_editTests ((st.editTests_ok n i).mpr ⟨hin, hn, free⟩)
    (keeps _ l hl (.editing (h.slots i).count (h.slots i).ranges))

/-- The slots once all but slot 0 have become EMPTY (R25, R26). -/
theorem clearedSlots_getElem (slot : Slot) (i : Fin 8) :
    ((Vector.replicate 8 emptySlot).set 0 slot)[i] = if i = 0 then slot else emptySlot :=
  (getElem_set_fin _ 0 i slot).trans (by simp)

/-- A store as a loader run's start and a reset leave it (R25, R26). -/
theorem StoreGood.cleared : StoreGood ⟨(Vector.replicate 8 emptySlot).set 0 identitySlot, zeroMap, zeroMap⟩ := by
  refine ⟨rfl, fun i => ?_, fun i hi => ?_⟩
  · show SlotGood ((Vector.replicate 8 emptySlot).set 0 identitySlot)[i]
    rw [clearedSlots_getElem]
    split
    · exact identitySlot_good
    · exact emptySlot_good
  · have : (0 : Fin 8) = i := by simpa [LayoutStore.inUse, PostureMap.names, zeroMap] using hi
    subst this
    rfl

theorem StoreGood.atLoaderStart {st : LayoutStore} (h : StoreGood st) : StoreGood st.atLoaderStart := by
  unfold LayoutStore.atLoaderStart
  rw [h.identity]
  exact .cleared

/-! ### The posture maps (R21 to R24) -/

theorem PostureMap.names_slotFor (m : PostureMap) (p : Posture) : m.names (m.slotFor p) = true := by
  cases p <;> simp [PostureMap.names, PostureMap.slotFor]

/-- A map entry that is written adds the slot written, and no other (R22). -/
theorem PostureMap.names_setEntry {m : PostureMap} {p : Posture} {n i : Fin 8}
    (h : (m.setEntry p n).names i = true) : i = n ∨ m.names i = true := by
  simp only [PostureMap.names, decide_eq_true_eq] at *
  cases p <;> simp only [PostureMap.setEntry] at h <;> omega

/-- A READY slot may be named in the pending map (R22). -/
theorem StoreGood.setPending {st : LayoutStore} (h : StoreGood st) (p : Posture) {n : Fin 8}
    (ready : st.slots[n].state = .ready) : StoreGood { st with pendingMap := st.pendingMap.setEntry p n } where
  identity := h.identity
  slots := h.slots
  maps i hi := by
    rcases Bool.or_eq_true_iff.mp hi with hi | hi
    · exact h.maps i (Bool.or_eq_true_iff.mpr (.inl hi))
    · rcases PostureMap.names_setEntry hi with rfl | hi
      · exact ready
      · exact h.maps i (Bool.or_eq_true_iff.mpr (.inr hi))

theorem StoreGood.takeover {st : LayoutStore} (h : StoreGood st) : StoreGood st.takeover where
  identity := h.identity
  slots := h.slots
  maps i hi := h.maps i (Bool.or_eq_true_iff.mpr (.inr (by simpa [LayoutStore.inUse, LayoutStore.takeover] using hi)))

/-- The slot of a posture in the active map is READY, so its layout may become the frame copy (R24, R84). -/
theorem StoreGood.slotFor {st : LayoutStore} (h : StoreGood st) (p : Posture) :
    SlotGood ⟨.ready, st.slots[st.active.slotFor p].layout⟩ := by
  have ready := h.maps _ (Bool.or_eq_true_iff.mpr (.inl (st.active.names_slotFor p)))
  rw [← ready]
  exact h.slots _

/-! ### Entries and layouts read from bytes (R6, R11 to R13, R183) -/

theorem parseEntry_inRange {bytes : List Byte} {e : Entry} (h : parseEntry bytes = some e) : e.inRange = true := by
  unfold parseEntry at h
  split at h
  · dsimp only at h
    split at h
    · cases h
    · split at h
      · next hr => cases h; exact hr
      · cases h
  · cases h

theorem parseEntries_some {n : Nat} {bytes : List Byte} {es : List Entry} (h : parseEntries n bytes = some es) :
    es.length = n ∧ ∀ e ∈ es, e.inRange = true := by
  induction n generalizing bytes es with
  | zero => cases h; simp
  | succ n ih =>
    unfold parseEntries at h
    split at h
    · next e es' he hes =>
      cases h
      obtain ⟨hlen, hr⟩ := ih hes
      refine ⟨by simp [hlen], fun e' he' => ?_⟩
      rcases List.mem_cons.mp he' with rfl | he'
      · exact parseEntry_inRange he
      · exact hr e' he'
    · cases h

/-- A layout that a LAYOUT section builds of at most 12 entries may be READY (R183). -/
theorem parseLayout_good {f sp b : Byte} {count : Nat} {entries : List Byte} {l : Layout}
    (h : parseLayout f sp b count entries = some l) (hcount : count ≤ 12) : SlotGood ⟨.ready, l⟩ := by
  unfold parseLayout at h
  split at h
  · next modes es _ hes =>
    split at h
    · next passed =>
      cases h
      obtain ⟨hlen, hr⟩ := parseEntries_some hes
      exact .checked (hlen.trans_le hcount) hr passed
    · cases h
  · cases h

/-- Replacing or appending an entry keeps a list to 12 entries in their ranges (R11). -/
theorem Layout.putEntry_good {l l' : Layout} {index : Nat} {e : Entry} (h : l.putEntry index e = some l')
    (he : e.inRange = true) (good : SlotGood ⟨.editing, l⟩) : SlotGood ⟨.editing, l'⟩ := by
  have count : l.entries.length ≤ 12 := good.count
  have ranges : ∀ e ∈ l.entries, e.inRange = true := good.ranges
  unfold Layout.putEntry at h
  split at h
  · cases h
    refine .editing (by simpa using count) fun e' he' => ?_
    rcases List.mem_or_eq_of_mem_set he' with he' | rfl
    · exact ranges e' he'
    · exact he
  · split at h
    · next hroom =>
      cases h
      refine .editing (by simp; omega) fun e' he' => ?_
      rcases List.mem_append.mp he' with he' | he'
      · exact ranges e' he'
      · rw [List.mem_singleton.mp he']; exact he
    · cases h

theorem Layout.dropEntry_good {l l' : Layout} (h : l.dropEntry = some l') (good : SlotGood ⟨.editing, l⟩) :
    SlotGood ⟨.editing, l'⟩ := by
  have count : l.entries.length ≤ 12 := good.count
  unfold Layout.dropEntry at h
  split at h
  · cases h
  · cases h
    exact .editing (by simp; omega) fun e he => good.ranges e (List.mem_of_mem_dropLast he)

end Sys2Proof.Machine
end

section
/-! Every step keeps the layouts' law: most commands leave the layout store and the frame copy as they are, and the few
that write them are the edits, the maps, the loader and the mapper's takeover (chapters 1, 5 and 12). -/

namespace Sys2Proof.Machine

open Sys2Proof.Safety

/-! ### Nothing of the layouts changes -/

/-- The layout store and the frame copy are the same. -/
structure SameLayouts (s t : State) : Prop where
  store : t.store = s.store
  copy : t.mapper.copy = s.mapper.copy

theorem SameLayouts.refl (s : State) : SameLayouts s s := ⟨rfl, rfl⟩

theorem SameLayouts.trans {s t u : State} (h : SameLayouts s t) (h' : SameLayouts t u) : SameLayouts s u :=
  ⟨h'.store.trans h.store, h'.copy.trans h.copy⟩

/-- The same, with the later change first. -/
theorem SameLayouts.after {s t u : State} (h' : SameLayouts t u) (h : SameLayouts s t) : SameLayouts s u := h.trans h'

theorem SameLayouts.keeps {s t : State} (law : LayoutsLaw s) (h : SameLayouts s t) : LayoutsLaw t := by
  rw [layoutsLaw_iff] at *
  rw [h.store, h.copy]
  exact law

/-- The command answers a next state with the same layouts. -/
def LeavesLayouts (s : State) (r : Result) : Prop := ∃ t, r = .next t ∧ SameLayouts s t

theorem SameLayouts.leaves {s t : State} (h : SameLayouts s t) : LeavesLayouts s (.next t) := ⟨t, rfl, h⟩

/-! ### The shared operations -/

theorem State.offer_same (s : State) (b : ReportBody) : SameLayouts s (s.offer b) := ⟨rfl, rfl⟩

theorem State.notify_same (s : State) (n : Notice) : SameLayouts s (s.notify n) := ⟨rfl, rfl⟩

theorem State.request_same (s : State) (r : Request) : SameLayouts s (s.request r) := ⟨rfl, rfl⟩

theorem State.respond_same (s : State) (status : Status) (data : List Byte) :
    SameLayouts s (s.respond status data) := ⟨by simp, by simp⟩

/-- A command keeps the layouts' law when its action does (R165). -/
theorem State.carryOut_keeps {s : State} (law : LayoutsLaw s) (code : Byte) (fits : List Byte → Bool) (exempt : Bool)
    (act : List Byte → State → Reply) (keeps : ∀ operands, LayoutsLaw (act operands s).after) :
    LayoutsLaw (s.carryOut code fits exempt act) := by
  obtain h | ⟨status, -, h⟩ | ⟨operands, -, h⟩ := s.carryOut_cases code fits exempt act <;> rw [h]
  · exact law
  · exact (s.respond_same status []).keeps law
  · exact (State.respond_same ..).keeps (keeps operands)

/-- A command leaves the layouts as they are when its action does (R165). -/
theorem State.carryOut_leaves (s : State) (code : Byte) (fits : List Byte → Bool) (exempt : Bool)
    (act : List Byte → State → Reply) (same : ∀ operands, SameLayouts s (act operands s).after) :
    LeavesLayouts s (.next (s.carryOut code fits exempt act)) := by
  refine SameLayouts.leaves ?_
  obtain h | ⟨status, -, h⟩ | ⟨operands, -, h⟩ := s.carryOut_cases code fits exempt act <;> rw [h]
  · exact .refl s
  · exact s.respond_same status []
  · exact (same operands).trans (State.respond_same ..)

theorem State.placeRun_same (s : State) (r : Run) : SameLayouts s (s.placeRun r) := ⟨by simp, by simp⟩

theorem State.estopActs_same (s : State) : SameLayouts s s.estopActs := by
  unfold State.estopActs
  split
  · exact ⟨rfl, rfl⟩
  · exact .refl s

theorem State.changeGuard_same (s : State) (new : GuardState) : SameLayouts s (s.changeGuard new) := ⟨rfl, rfl⟩

/-! ### Commands of the control packets that have no part in the layouts -/

theorem State.adopt_same (s : State) (p : Posture) (initial face : Bool) : SameLayouts s (s.adopt p initial face) :=
  ⟨rfl, rfl⟩

theorem execFaceSet_leaves (s : State) : LeavesLayouts s (execFaceSet s) := by
  refine s.carryOut_leaves _ _ _ _ fun operands => ?_
  unfold faceSetAction
  split
  · split
    · exact .refl s
    · dsimp only
      split
      · exact ⟨rfl, rfl⟩
      · exact ⟨rfl, rfl⟩
  · exact .refl s

theorem execAngleSet_leaves (s : State) : LeavesLayouts s (execAngleSet s) := by
  refine s.carryOut_leaves _ _ _ _ fun operands => ?_
  unfold angleSetAction
  split <;> exact ⟨rfl, rfl⟩

theorem execAngleCal_leaves (s : State) : LeavesLayouts s (execAngleCal s) := by
  refine s.carryOut_leaves _ _ _ _ fun operands => ?_
  unfold angleCalAction
  split
  · split <;> exact ⟨rfl, rfl⟩
  · exact .refl s

theorem execGainLoad_leaves (s : State) : LeavesLayouts s (execGainLoad s) := by
  refine s.carryOut_leaves _ _ _ _ fun operands => ?_
  unfold gainLoadAction
  split
  · split
    · exact .refl s
    · dsimp only
      split <;> exact ⟨rfl, rfl⟩
  · exact .refl s

theorem execGainPoints_leaves (s : State) : LeavesLayouts s (execGainPoints s) := by
  refine s.carryOut_leaves _ _ _ _ fun operands => ?_
  unfold gainPointsAction
  split
  · split <;> exact ⟨rfl, rfl⟩
  · exact .refl s

theorem execProfileSet_leaves (s : State) : LeavesLayouts s (execProfileSet s) := by
  refine s.carryOut_leaves _ _ _ _ fun operands => ?_
  unfold profileSetAction
  split
  · split <;> exact ⟨rfl, rfl⟩
  · exact .refl s

theorem execEmitSet_leaves (s : State) : LeavesLayouts s (execEmitSet s) := by
  refine s.carryOut_leaves _ _ _ _ fun operands => ?_
  unfold emitSetAction
  split
  · split <;> exact ⟨rfl, rfl⟩
  · exact .refl s

theorem execEmitPeriod_leaves (s : State) : LeavesLayouts s (execEmitPeriod s) := by
  refine s.carryOut_leaves _ _ _ _ fun operands => ?_
  unfold emitPeriodAction
  split <;> exact ⟨rfl, rfl⟩

theorem execEmitFade_leaves (s : State) : LeavesLayouts s (execEmitFade s) := by
  refine s.carryOut_leaves _ _ _ _ fun operands => ?_
  unfold emitFadeAction
  split <;> exact ⟨rfl, rfl⟩

theorem execGuardSet_leaves (s : State) : LeavesLayouts s (execGuardSet s) := by
  refine s.carryOut_leaves _ _ _ _ fun operands => ?_
  unfold guardSetAction
  split <;> exact ⟨rfl, rfl⟩

theorem execReportRead_leaves (s : State) : LeavesLayouts s (execReportRead s) := by
  refine s.carryOut_leaves _ _ _ _ fun operands => ?_
  unfold reportReadAction
  split
  · split <;> exact ⟨rfl, rfl⟩
  · exact .refl s

theorem execAttnSet_leaves (s : State) : LeavesLayouts s (execAttnSet s) := by
  refine s.carryOut_leaves _ _ _ _ fun operands => ?_
  unfold attnSetAction
  split
  · split <;> exact ⟨rfl, rfl⟩
  · exact .refl s

theorem execStatusRead_leaves (s : State) : LeavesLayouts s (execStatusRead s) :=
  s.carryOut_leaves _ _ _ _ fun _ => .refl s

theorem execFaultClear_leaves (s : State) : LeavesLayouts s (execFaultClear s) :=
  s.carryOut_leaves _ _ _ _ fun _ => ⟨rfl, rfl⟩

theorem execSlotRead_leaves (s : State) : LeavesLayouts s (execSlotRead s) := by
  refine s.carryOut_leaves _ _ _ _ fun operands => ?_
  unfold slotReadAction
  split
  · split
    · dsimp only
      split
      · exact .refl s
      · split <;> exact .refl s
    · exact .refl s
  · exact .refl s

theorem execCtrl_leaves (first code count : Byte) (operands : List Byte) (s : State) :
    LeavesLayouts s (execCtrl first code count operands s) := by
  unfold execCtrl
  split <;> exact SameLayouts.leaves ⟨rfl, rfl⟩

theorem execUnknownCommand_leaves (s : State) : LeavesLayouts s (execUnknownCommand s) := by
  unfold execUnknownCommand
  split
  · split
    · exact (SameLayouts.refl s).leaves
    · exact (s.respond_same _ _).leaves
  · exact (SameLayouts.refl s).leaves

/-! ### Frame intake, link guard and emission -/

theorem State.offerIntake_same (s : State) : SameLayouts s s.offerIntake := by
  unfold State.offerIntake
  dsimp only
  split
  · exact .refl s
  · exact s.offer_same _

theorem State.truncateFrame_same (s : State) : SameLayouts s s.truncateFrame := by
  unfold State.truncateFrame
  split
  · exact .refl s
  · exact .after (State.offerIntake_same _) ⟨rfl, rfl⟩
  · exact .after (State.offerIntake_same _) ⟨rfl, rfl⟩

theorem State.fopenArrival_same (s : State) : SameLayouts s s.fopenArrival := by
  unfold State.fopenArrival
  split <;> exact ⟨rfl, rfl⟩

theorem execFopen_leaves (frame width height : Word16) (s : State) :
    LeavesLayouts s (execFopen frame width height s) :=
  SameLayouts.leaves (.after (State.fopenArrival_same _) (s.truncateFrame_same.trans ⟨rfl, rfl⟩))

theorem execLine_leaves (row : Word16) (payload : List Pixel) (s : State) :
    LeavesLayouts s (execLine row payload s) := by
  unfold execLine State.strayLine
  split
  · split
    · exact (SameLayouts.refl s).leaves
    · exact SameLayouts.leaves ⟨rfl, rfl⟩
  · exact SameLayouts.leaves ⟨rfl, rfl⟩
  · exact SameLayouts.leaves ⟨rfl, rfl⟩

theorem execFclose_leaves (linesSent : Word16) (s : State) : LeavesLayouts s (execFclose linesSent s) := by
  unfold execFclose
  dsimp only
  split
  · exact (SameLayouts.refl s).leaves
  · exact SameLayouts.leaves (.after (State.offerIntake_same _) ⟨rfl, rfl⟩)
  · exact SameLayouts.leaves (.after (State.offerIntake_same _) ⟨rfl, rfl⟩)

theorem execGuardTimerExpiry_leaves (s : State) : LeavesLayouts s (execGuardTimerExpiry s) := by
  unfold execGuardTimerExpiry
  split
  · split
    · exact (s.changeGuard_same _).leaves
    · exact (s.changeGuard_same _).leaves
    · exact (SameLayouts.refl s).leaves
  · exact (SameLayouts.refl s).leaves

theorem execEstopAsserted_leaves (s : State) : LeavesLayouts s (execEstopAsserted s) :=
  SameLayouts.leaves (.after (State.estopActs_same _) ⟨rfl, rfl⟩)

/-! ### Posture sensing and the side bus -/

theorem execSampleTimerExpiry_leaves (s : State) : LeavesLayouts s (execSampleTimerExpiry s) := by
  unfold execSampleTimerExpiry
  dsimp only
  split <;> exact SameLayouts.leaves ⟨rfl, rfl⟩

theorem execTransactionStart_leaves (s : State) : LeavesLayouts s (execTransactionStart s) := by
  unfold execTransactionStart
  split <;> exact SameLayouts.leaves ⟨rfl, rfl⟩

theorem execArbitrationLost_leaves (s : State) : LeavesLayouts s (execArbitrationLost s) := by
  unfold execArbitrationLost
  split <;> exact SameLayouts.leaves ⟨rfl, rfl⟩

theorem State.completeRead_same (s : State) (r : Request) (received : List Byte) (lateLoss : Bool) :
    SameLayouts s (s.completeRead r received lateLoss) := by
  unfold State.completeRead
  split <;> exact ⟨rfl, rfl⟩

theorem State.dwellStep_same (s : State) (c : PostureClass) : SameLayouts s (s.dwellStep c) := by
  unfold State.dwellStep
  dsimp only
  split
  · exact ⟨rfl, rfl⟩
  · generalize (if s.posture.candidate = some c then s.posture.dwellCount + 1 else 1) = count
    split <;> exact ⟨rfl, rfl⟩

theorem State.classifySample_same (s : State) : SameLayouts s s.classifySample := by
  unfold State.classifySample
  dsimp only
  split
  · exact s.adopt_same ..
  · exact s.dwellStep_same _

theorem State.recoverSensor_same (s : State) : SameLayouts s s.recoverSensor := by
  unfold State.recoverSensor
  split <;> exact ⟨rfl, rfl⟩

theorem State.goodSample_same (s : State) (first second : Byte) : SameLayouts s (s.goodSample first second) := by
  have recovered : SameLayouts s
      (State.recoverSensor (State.angleChain { s with posture := { s.posture with outstanding := false } }
        (rawCode first second))) := .after (State.recoverSensor_same _) ⟨by simp, by simp⟩
  exact SameLayouts.after (State.classifySample_same _) (recovered.trans ⟨rfl, rfl⟩)

theorem execSensorReadComplete_leaves (first second : Byte) (lateLoss : Bool) (s : State) :
    LeavesLayouts s (execSensorReadComplete first second lateLoss s) := by
  unfold execSensorReadComplete
  split
  · exact ((s.completeRead_same ..).trans (State.goodSample_same ..)).leaves
  · exact (SameLayouts.refl s).leaves

theorem State.failedSample_same (s : State) : SameLayouts s s.failedSample := by
  unfold State.failedSample
  dsimp only
  split <;> exact ⟨rfl, rfl⟩

theorem State.endRun_same (s : State) (outcome : LoadOutcome) (address : Nat) :
    SameLayouts s (s.endRun outcome address) := ⟨rfl, rfl⟩

theorem State.loaderFails_same (s : State) : SameLayouts s s.loaderFails := by
  unfold State.loaderFails
  split
  · exact s.endRun_same ..
  · exact .refl s

theorem State.abort_same (s : State) (r : Request) (after : BusAfter) : SameLayouts s (s.abort r after) := by
  refine .after (t := s.endTransaction [] after) ?_ ⟨rfl, rfl⟩
  cases r with
  | sensor device register => exact State.failedSample_same _
  | nvm address count => exact State.loaderFails_same _

theorem State.breakOff_same (s : State) (f : Nat → List BusSymbol) : SameLayouts s (s.breakOff f) := ⟨rfl, rfl⟩

theorem execNackAbort_leaves (s : State) : LeavesLayouts s (execNackAbort s) := by
  unfold execNackAbort
  split
  · exact ((s.breakOff_same _).trans (State.abort_same ..)).leaves
  · exact (SameLayouts.refl s).leaves

theorem execStretchTimeout_leaves (s : State) : LeavesLayouts s (execStretchTimeout s) := by
  unfold execStretchTimeout
  split
  · exact ((s.breakOff_same _).trans (State.abort_same ..)).leaves
  · exact (SameLayouts.refl s).leaves

theorem execTotalTimeout_leaves (sclHeldLow : Bool) (s : State) : LeavesLayouts s (execTotalTimeout sclHeldLow s) := by
  unfold execTotalTimeout
  split
  · exact (s.abort_same ..).leaves
  · split <;> exact ((s.breakOff_same _).trans (State.abort_same ..)).leaves
  · exact (SameLayouts.refl s).leaves

/-! ### Copy runs and the fill sweep -/

theorem State.examineLine_same (s : State) (f : FrameInHand) (l : LineInHand) : SameLayouts s (s.examineLine f l) := by
  obtain ⟨hstore, -, -, -, -, -, -, -, -, -, -, hmapper, -⟩ := examineEntries_frame s.mapper.copy.modes f l.slot l.row
    (s.mapper.copy.entries.drop l.next) l.next s
  exact ⟨hstore, by have := congrArg Mapper.copy hmapper; exact this⟩

theorem execLineItem_leaves (s : State) : LeavesLayouts s (execLineItem s) := by
  unfold execLineItem
  split
  · exact SameLayouts.leaves (.after (State.examineLine_same ..) ⟨rfl, rfl⟩)
  · exact (SameLayouts.refl s).leaves

theorem execFrameEnd_leaves (s : State) : LeavesLayouts s (execFrameEnd s) := by
  unfold execFrameEnd
  split <;> exact SameLayouts.leaves ⟨rfl, rfl⟩

theorem State.placeFill_same (s : State) (r : Run) : SameLayouts s (s.placeFill r) :=
  (s.placeRun_same r).trans ⟨rfl, rfl⟩

theorem execFillSweepRun_leaves (s : State) : LeavesLayouts s (execFillSweepRun s) := by
  unfold execFillSweepRun
  split
  · split
    · exact (SameLayouts.refl s).leaves
    · dsimp only
      split
      · exact (s.placeFill_same _).leaves
      · exact SameLayouts.leaves ⟨rfl, rfl⟩
  · exact (SameLayouts.refl s).leaves

theorem execWaitingRunPlaced_leaves (s : State) : LeavesLayouts s (execWaitingRunPlaced s) := by
  unfold execWaitingRunPlaced
  split
  · exact (SameLayouts.refl s).leaves
  · next r _ =>
    have taken : SameLayouts s { s with mapper := { s.mapper with waitingRun := none } } := ⟨rfl, rfl⟩
    split
    · dsimp only
      split
      · exact (taken.trans (State.placeFill_same ..)).leaves
      · split
        · exact ((taken.trans (State.placeRun_same ..)).trans (State.examineLine_same ..)).leaves
        · exact (taken.trans (State.placeRun_same ..)).leaves
    · exact (SameLayouts.refl s).leaves

/-! ### The panel bus -/

theorem State.closeRun_same (s : State) (r : Run) : SameLayouts s (s.closeRun r) := ⟨by simp, by simp⟩

theorem State.dropRun_same (s : State) (r : Run) (code : FaultCode) : SameLayouts s (s.dropRun r code) :=
  (s.closeRun_same r).trans ⟨rfl, rfl⟩

theorem execGrant_leaves (s : State) : LeavesLayouts s (execGrant s) := by
  unfold execGrant
  split
  · split <;> exact SameLayouts.leaves ⟨rfl, rfl⟩
  · exact (SameLayouts.refl s).leaves

theorem execTurnaroundDone_leaves (s : State) : LeavesLayouts s (execTurnaroundDone s) := by
  unfold execTurnaroundDone
  split <;> exact SameLayouts.leaves ⟨rfl, rfl⟩

theorem execRetryDone_leaves (s : State) : LeavesLayouts s (execRetryDone s) := by
  unfold execRetryDone
  split <;> exact SameLayouts.leaves ⟨rfl, rfl⟩

theorem execWindowAccepted_leaves (s : State) : LeavesLayouts s (execWindowAccepted s) := by
  unfold execWindowAccepted
  split <;> exact SameLayouts.leaves ⟨rfl, rfl⟩

theorem execReject_leaves (s : State) : LeavesLayouts s (execReject s) := by
  unfold execReject State.rejectRun
  split
  · split
    · dsimp only
      split
      · exact SameLayouts.leaves ⟨rfl, rfl⟩
      · exact SameLayouts.leaves (.after (State.dropRun_same ..) ⟨rfl, rfl⟩)
    · exact (SameLayouts.refl s).leaves
  · exact (SameLayouts.refl s).leaves

theorem execHoldLimit_leaves (pairsDone : Nat) (s : State) : LeavesLayouts s (execHoldLimit pairsDone s) := by
  unfold execHoldLimit
  dsimp only
  split
  · split
    · exact SameLayouts.leaves (.after (State.dropRun_same ..) ⟨rfl, rfl⟩)
    · exact (SameLayouts.refl s).leaves
  · split
    · exact SameLayouts.leaves (.after (State.dropRun_same ..) ⟨rfl, rfl⟩)
    · exact (SameLayouts.refl s).leaves
  · exact (SameLayouts.refl s).leaves

theorem execRunFinished_leaves (s : State) : LeavesLayouts s (execRunFinished s) := by
  unfold execRunFinished
  split
  · exact SameLayouts.leaves (.after (State.closeRun_same ..) ⟨rfl, rfl⟩)
  · exact (SameLayouts.refl s).leaves

/-! ### The mapper: takeover and standalone apply (R84, R99, R100) -/

/-- The frame copy is taken from the slot that the pending map names (R23, R84). -/
theorem State.copyLayout_keeps {s : State} (law : LayoutsLaw s) : LayoutsLaw s.copyLayout := by
  obtain ⟨store, -⟩ := (layoutsLaw_iff s).mp law
  exact (layoutsLaw_iff _).mpr ⟨store.takeover, store.takeover.slotFor s.posture.posture⟩

theorem State.setUpFrame_keeps {s : State} (law : LayoutsLaw s) (number : Word16) (width height : Nat) :
    LayoutsLaw (s.setUpFrame number width height) := by
  have same : SameLayouts s.copyLayout (s.setUpFrame number width height) := by
    unfold State.setUpFrame
    dsimp only
    split <;> exact ⟨rfl, rfl⟩
  exact same.keeps (State.copyLayout_keeps law)

theorem State.standaloneApply_keeps {s : State} (law : LayoutsLaw s) : LayoutsLaw s.standaloneApply := by
  have before : SameLayouts s { s with mapper := { s.mapper.withdrawFill with changeNotice := false } } := ⟨rfl, rfl⟩
  have same : SameLayouts
      (State.copyLayout { s with mapper := { s.mapper.withdrawFill with changeNotice := false } })
      s.standaloneApply := by
    unfold State.standaloneApply
    dsimp only
    split <;> exact ⟨rfl, rfl⟩
  exact same.keeps (State.copyLayout_keeps (before.keeps law))

theorem State.layoutNotice_keeps {s : State} (law : LayoutsLaw s) : LayoutsLaw s.layoutNotice := by
  unfold State.layoutNotice
  split
  · exact SameLayouts.keeps law ⟨rfl, rfl⟩
  · exact State.standaloneApply_keeps law
  · exact State.standaloneApply_keeps law

theorem State.guardNotice_keeps {s : State} (law : LayoutsLaw s) (new : GuardState) :
    LayoutsLaw (s.guardNotice new) := by
  unfold State.guardNotice
  dsimp only
  split
  · exact State.standaloneApply_keeps (SameLayouts.keeps law ⟨rfl, rfl⟩)
  · exact SameLayouts.keeps law ⟨rfl, rfl⟩

/-- A notice leaves the list; the frame copy stays (R83). -/
theorem Mapper.notice?_copy {m m' : Mapper} {n : Notice} (h : m.notice? = some (n, m')) : m'.copy = m.copy := by
  unfold Mapper.notice? at h
  split at h
  · cases h; rfl
  · cases h


/-! ### The commands that write the store (R8 to R14, R22, R25) -/

theorem State.setStore_keeps {s : State} (law : LayoutsLaw s) {store : LayoutStore} (good : StoreGood store) :
    LayoutsLaw { s with store := store } :=
  (layoutsLaw_iff _).mpr ⟨good, ((layoutsLaw_iff s).mp law).2⟩

/-- An edit keeps the law when its change keeps entries in their ranges and to 12 (R8). -/
theorem State.editReply_keeps {s : State} (law : LayoutsLaw s) (n : Byte) (needs : Bool)
    (change : Layout → Option Layout)
    (keeps : ∀ l l', change l = some l' → SlotGood ⟨.editing, l⟩ → SlotGood ⟨.editing, l'⟩) :
    LayoutsLaw (s.editReply n needs change).after := by
  unfold State.editReply
  split
  · exact law
  · next slot store ok =>
    exact State.setStore_keeps law (StoreGood.edit ((layoutsLaw_iff s).mp law).1 ok keeps)

theorem slotClearAction_keeps {s : State} (law : LayoutsLaw s) (operands : List Byte) :
    LayoutsLaw (slotClearAction operands s).after := by
  unfold slotClearAction
  split
  · refine State.editReply_keeps law _ _ _ fun l l' h _ => ?_
    cases h
    exact .editing (by decide) (by decide)
  · exact law

theorem slotZonesAction_keeps {s : State} (law : LayoutsLaw s) (operands : List Byte) :
    LayoutsLaw (slotZonesAction operands s).after := by
  unfold slotZonesAction
  split
  · refine State.editReply_keeps law _ _ _ fun l l' h good => ?_
    obtain ⟨modes, -, rfl⟩ := Option.map_eq_some_iff.mp h
    exact .editing good.count good.ranges
  · exact law

theorem entryPutAction_keeps {s : State} (law : LayoutsLaw s) (operands : List Byte) :
    LayoutsLaw (entryPutAction operands s).after := by
  unfold entryPutAction
  split
  · refine State.editReply_keeps law _ _ _ fun l l' h good => ?_
    obtain ⟨e, he, put⟩ := Option.bind_eq_some_iff.mp h
    exact Layout.putEntry_good put (parseEntry_inRange he) good
  · exact law

theorem entryDropAction_keeps {s : State} (law : LayoutsLaw s) (operands : List Byte) :
    LayoutsLaw (entryDropAction operands s).after := by
  unfold entryDropAction
  split
  · exact State.editReply_keeps law _ _ _ fun l l' h good => Layout.dropEntry_good h good
  · exact law

/-- A slot being edited becomes READY only when its layout passes the check (R14, R18). -/
theorem slotCheckAction_keeps {s : State} (law : LayoutsLaw s) (operands : List Byte) :
    LayoutsLaw (slotCheckAction operands s).after := by
  obtain ⟨store, -⟩ := (layoutsLaw_iff s).mp law
  unfold slotCheckAction
  split
  · next n =>
    split
    · next hn =>
      dsimp only
      split
      · exact law
      · exact law
      · next editing =>
        split
        · exact law
        · next passed =>
          have good := store.slots ⟨n.toNat, hn⟩
          have notZero := store.ne_zero_of_editing (i := ⟨n.toNat, hn⟩) editing
          exact State.setStore_keeps law
            (store.setSlot notZero (.checked good.count good.ranges passed) fun _ => rfl)
    · exact law
  · exact law

/-- A map entry that is written names a READY slot (R22). -/
theorem State.offerToMap_keeps {s t : State} (law : LayoutsLaw s) {p : Posture} {n : Nat}
    (ok : s.offerToMap p n = .ok t) : LayoutsLaw t := by
  unfold State.offerToMap at ok
  split at ok
  · split at ok
    · next hn ready =>
      cases ok
      exact (State.notify_same _ _).keeps
        (State.setStore_keeps law (((layoutsLaw_iff s).mp law).1.setPending p (n := ⟨n, hn⟩) ready))
    · cases ok
  · cases ok

theorem mapSetAction_keeps {s : State} (law : LayoutsLaw s) (operands : List Byte) :
    LayoutsLaw (mapSetAction operands s).after := by
  unfold mapSetAction
  split
  · split
    · exact law
    · split
      · exact law
      · next ok => exact State.offerToMap_keeps law ok
  · exact law

theorem State.startRun_keeps {s : State} (law : LayoutsLaw s) : LayoutsLaw s.startRun :=
  SameLayouts.keeps (State.setStore_keeps law ((layoutsLaw_iff s).mp law).1.atLoaderStart)
    (.after (State.request_same ..) ⟨rfl, rfl⟩)

/-! ### The sections of the image (R182 to R184) -/

theorem State.writeSlot_keeps {s : State} (law : LayoutsLaw s) {n : Nat} {i : Fin 8}
    (tests : s.store.editTests n = .ok i) {slot : Slot} (good : SlotGood slot) : LayoutsLaw (s.writeSlot i slot) :=
  State.setStore_keeps law (((layoutsLaw_iff s).mp law).1.setSlot_of_editTests tests good)

theorem State.applyLayout_keeps {s : State} (law : LayoutsLaw s) (body : List Byte) :
    LayoutsLaw (s.applyLayout body).2 := by
  unfold State.applyLayout
  split
  · split
    · exact law
    · next tests =>
      split
      · exact law
      · next hcount =>
        split
        · next parsed => exact State.writeSlot_keeps law tests (parseLayout_good parsed (by omega))
        · exact State.writeSlot_keeps law tests emptySlot_good
  · exact law

theorem State.applyMapEntry_keeps {s : State} (law : LayoutsLaw s) (p : Posture) (n : Byte) :
    LayoutsLaw (s.applyMapEntry p n).2 := by
  unfold State.applyMapEntry
  split
  · next ok => exact State.offerToMap_keeps law ok
  · exact law

theorem State.applyMap_keeps {s : State} (law : LayoutsLaw s) (body : List Byte) : LayoutsLaw (s.applyMap body).2 := by
  unfold State.applyMap
  split
  · exact State.applyMapEntry_keeps (State.applyMapEntry_keeps (State.applyMapEntry_keeps
      (State.applyMapEntry_keeps law _ _) _ _) _ _) _ _
  · exact law

theorem State.orKeep_same (s : State) (o : Option State) (h : ∀ t, o = some t → SameLayouts s t) :
    SameLayouts s (s.orKeep o).2 := by
  cases o with
  | none => exact .refl s
  | some t => exact h t rfl

theorem State.applyAngle_same {s t : State} {body : List Byte} (h : s.applyAngle body = some t) : SameLayouts s t := by
  unfold State.applyAngle at h
  split at h
  · obtain ⟨_, -, rfl⟩ := Option.map_eq_some_iff.mp h
    exact ⟨rfl, rfl⟩
  · cases h

theorem State.applyGain_same {s t : State} {body : List Byte} (h : s.applyGain body = some t) : SameLayouts s t := by
  unfold State.applyGain at h
  dsimp only at h
  split at h <;> cases h
  exact ⟨rfl, rfl⟩

theorem State.applyEmit_same {s t : State} {body : List Byte} (h : s.applyEmit body = some t) : SameLayouts s t := by
  unfold State.applyEmit at h
  split at h <;> cases h
  exact ⟨rfl, rfl⟩

theorem State.applyGuard_same {s t : State} {body : List Byte} (h : s.applyGuard body = some t) : SameLayouts s t := by
  unfold State.applyGuard at h
  split at h <;> cases h
  exact ⟨rfl, rfl⟩

theorem State.applyProfile_same (s : State) (d : Driver) (c w t : Byte) : SameLayouts s (s.applyProfile d c w t).2 := by
  unfold State.applyProfile
  split <;> exact ⟨rfl, rfl⟩

theorem State.applyProfiles_same (s : State) (body : List Byte) : SameLayouts s (s.applyProfiles body).2 := by
  unfold State.applyProfiles
  split
  · exact (State.applyProfile_same ..).trans ((State.applyProfile_same ..).trans (State.applyProfile_same ..))
  · exact .refl s

/-- Of the sections only LAYOUT and MAP touch the layouts, and they keep their law (R182 to R184). -/
theorem State.applySection_keeps {s : State} (law : LayoutsLaw s) (kind : Byte) (body : List Byte) :
    LayoutsLaw (s.applySection kind body).2 := by
  unfold State.applySection
  split
  · split
    · exact (s.orKeep_same _ fun _ => State.applyAngle_same).keeps law
    · exact (s.orKeep_same _ fun _ => State.applyGain_same).keeps law
    · exact (s.orKeep_same _ fun _ => State.applyEmit_same).keeps law
    · exact (s.orKeep_same _ fun _ => State.applyGuard_same).keeps law
    · exact (s.applyProfiles_same body).keeps law
    · exact State.applyLayout_keeps law body
    · exact State.applyMap_keeps law body
  · exact law

/-! ### The walk through the image (R181) -/

theorem State.beginSection_same (s : State) (address : Nat) : SameLayouts s (s.beginSection address) := by
  unfold State.beginSection
  dsimp only
  split <;> exact ⟨rfl, rfl⟩

theorem State.readBody_same (s : State) (kind : Byte) (length : Nat) (got : List Byte) :
    SameLayouts s (s.readBody kind length got) := ⟨rfl, rfl⟩

theorem State.finishSection_keeps {s : State} (law : LayoutsLaw s) (kind : Byte) (body : List Byte) (next : Nat) :
    LayoutsLaw (s.finishSection kind body next) :=
  SameLayouts.keeps (State.applySection_keeps law kind body) (.after (State.beginSection_same ..) ⟨rfl, rfl⟩)

theorem State.takeHeader_keeps {s : State} (law : LayoutsLaw s) (marker kind hi lo : Byte) (next : Nat) :
    LayoutsLaw (s.takeHeader marker kind hi lo next) := by
  unfold State.takeHeader
  dsimp only
  repeat' split
  · exact (s.endRun_same ..).keeps law
  · exact (s.endRun_same ..).keeps law
  · exact (s.endRun_same ..).keeps law
  · exact (s.endRun_same ..).keeps law
  · exact (s.beginSection_same _).keeps law
  · exact State.finishSection_keeps law ..
  · exact (s.readBody_same ..).keeps law

theorem State.loaderTakes_keeps {s : State} (law : LayoutsLaw s) (bytes : List Byte) :
    LayoutsLaw (s.loaderTakes bytes) := by
  have moved : ∀ address, LayoutsLaw (s.moveCursor address) := fun address => SameLayouts.keeps law ⟨rfl, rfl⟩
  unfold State.loaderTakes
  split
  · split
    · exact (s.beginSection_same _).keeps law
    · exact (s.endRun_same ..).keeps law
  · exact State.takeHeader_keeps (moved _) ..
  · dsimp only
    split
    · exact (State.readBody_same ..).keeps (moved _)
    · exact State.finishSection_keeps (moved _) ..
  · exact law

/-! ### Resets (R26, R80, R106) -/

theorem reset_layoutsLaw : LayoutsLaw State.reset :=
  (layoutsLaw_iff _).mpr ⟨.cleared, identitySlot_good⟩

theorem State.resetPart_keeps (s : State) : LayoutsLaw s.resetPart :=
  SameLayouts.keeps reset_layoutsLaw (.after (State.estopActs_same _) ⟨rfl, rfl⟩)

/-! ### The commands, one by one -/

/-- Whatever next state the command answers obeys the layouts' law. -/
def KeepsLayouts (r : Result) : Prop := ∃ t, r = .next t ∧ LayoutsLaw t

theorem LeavesLayouts.keeps {s : State} {r : Result} (h : LeavesLayouts s r) (law : LayoutsLaw s) : KeepsLayouts r := by
  obtain ⟨t, hr, same⟩ := h
  exact ⟨t, hr, same.keeps law⟩

theorem execSoftReset_keeps {s : State} (law : LayoutsLaw s) : KeepsLayouts (execSoftReset s) := by
  unfold execSoftReset
  split
  · exact ⟨_, rfl, law⟩
  · exact ⟨_, rfl, (s.respond_same ..).keeps law⟩
  · exact ⟨_, rfl, State.resetPart_keeps _⟩

theorem execNvmReadComplete_keeps {s : State} (law : LayoutsLaw s) (bytes : List Byte) (lateLoss : Bool) :
    KeepsLayouts (execNvmReadComplete bytes lateLoss s) := by
  unfold execNvmReadComplete
  split
  · split
    · exact ⟨_, rfl, State.loaderTakes_keeps ((s.completeRead_same ..).keeps law) _⟩
    · exact ⟨_, rfl, law⟩
  · exact ⟨_, rfl, law⟩

theorem execFrameSetUp_keeps {s : State} (law : LayoutsLaw s) : KeepsLayouts (execFrameSetUp s) := by
  unfold execFrameSetUp
  split
  · refine ⟨_, rfl, State.setUpFrame_keeps ?_ ..⟩
    exact SameLayouts.keeps law ⟨rfl, rfl⟩
  · exact ⟨_, rfl, law⟩

/-- The state in which a notice has been taken. -/
theorem Mapper.notice?_keeps {s : State} (law : LayoutsLaw s) {n : Notice} {m : Mapper}
    (h : s.mapper.notice? = some (n, m)) : LayoutsLaw { s with mapper := m } :=
  SameLayouts.keeps law ⟨rfl, Mapper.notice?_copy h⟩

theorem execPostureNotice_keeps {s : State} (law : LayoutsLaw s) : KeepsLayouts (execPostureNotice s) := by
  unfold execPostureNotice
  split
  · next h => exact ⟨_, rfl, State.layoutNotice_keeps (Mapper.notice?_keeps law h)⟩
  · exact ⟨_, rfl, law⟩

theorem execMapSetNotice_keeps {s : State} (law : LayoutsLaw s) : KeepsLayouts (execMapSetNotice s) := by
  unfold execMapSetNotice
  split
  · next h => exact ⟨_, rfl, State.layoutNotice_keeps (Mapper.notice?_keeps law h)⟩
  · exact ⟨_, rfl, law⟩

theorem execGuardStateNotice_keeps {s : State} (law : LayoutsLaw s) : KeepsLayouts (execGuardStateNotice s) := by
  unfold execGuardStateNotice
  split
  · next h => exact ⟨_, rfl, State.guardNotice_keeps (Mapper.notice?_keeps law h) _⟩
  · exact ⟨_, rfl, law⟩

theorem execDropNotice_keeps {s : State} (law : LayoutsLaw s) : KeepsLayouts (execDropNotice s) := by
  unfold execDropNotice
  split
  · next h => exact ⟨_, rfl, SameLayouts.keeps (Mapper.notice?_keeps law h) ⟨rfl, rfl⟩⟩
  · exact ⟨_, rfl, law⟩

/-- Every command keeps the layouts' law. -/
theorem exec_keepsLayouts {s : State} (law : LayoutsLaw s) (c : Instr) : KeepsLayouts (exec c s) := by
  cases c with
  | reset => exact ⟨_, rfl, s.resetPart_keeps⟩
  | softReset => exact execSoftReset_keeps law
  | ctrl first code count operands => exact (execCtrl_leaves first code count operands s).keeps law
  | unknownCommand => exact (execUnknownCommand_leaves s).keeps law
  | otherPacket => exact ⟨_, rfl, law⟩
  | slotClear => exact ⟨_, rfl, State.carryOut_keeps law _ _ _ _ (slotClearAction_keeps law)⟩
  | slotZones => exact ⟨_, rfl, State.carryOut_keeps law _ _ _ _ (slotZonesAction_keeps law)⟩
  | entryPut => exact ⟨_, rfl, State.carryOut_keeps law _ _ _ _ (entryPutAction_keeps law)⟩
  | entryDrop => exact ⟨_, rfl, State.carryOut_keeps law _ _ _ _ (entryDropAction_keeps law)⟩
  | slotCheck => exact ⟨_, rfl, State.carryOut_keeps law _ _ _ _ (slotCheckAction_keeps law)⟩
  | slotRead => exact (execSlotRead_leaves s).keeps law
  | mapSet => exact ⟨_, rfl, State.carryOut_keeps law _ _ _ _ (mapSetAction_keeps law)⟩
  | faceSet => exact (execFaceSet_leaves s).keeps law
  | angleSet => exact (execAngleSet_leaves s).keeps law
  | angleCal => exact (execAngleCal_leaves s).keeps law
  | gainLoad => exact (execGainLoad_leaves s).keeps law
  | gainPoints => exact (execGainPoints_leaves s).keeps law
  | profileSet => exact (execProfileSet_leaves s).keeps law
  | emitSet => exact (execEmitSet_leaves s).keeps law
  | emitPeriod => exact (execEmitPeriod_leaves s).keeps law
  | emitFade => exact (execEmitFade_leaves s).keeps law
  | guardSet => exact (execGuardSet_leaves s).keeps law
  | reportRead => exact (execReportRead_leaves s).keeps law
  | attnSet => exact (execAttnSet_leaves s).keeps law
  | statusRead => exact (execStatusRead_leaves s).keeps law
  | faultClear => exact (execFaultClear_leaves s).keeps law
  | imageReload => exact ⟨_, rfl, State.carryOut_keeps law _ _ _ _ fun _ => State.startRun_keeps law⟩
  | fopen frame width height => exact (execFopen_leaves frame width height s).keeps law
  | line row payload => exact (execLine_leaves row payload s).keeps law
  | fclose linesSent => exact (execFclose_leaves linesSent s).keeps law
  | sampleTimerExpiry => exact (execSampleTimerExpiry_leaves s).keeps law
  | transactionStart => exact (execTransactionStart_leaves s).keeps law
  | arbitrationLost => exact (execArbitrationLost_leaves s).keeps law
  | sensorReadComplete first second lateLoss =>
    exact (execSensorReadComplete_leaves first second lateLoss s).keeps law
  | nvmReadComplete bytes lateLoss => exact execNvmReadComplete_keeps law bytes lateLoss
  | nackAbort => exact (execNackAbort_leaves s).keeps law
  | stretchTimeout => exact (execStretchTimeout_leaves s).keeps law
  | totalTimeout sclHeldLow => exact (execTotalTimeout_leaves sclHeldLow s).keeps law
  | frameSetUp => exact execFrameSetUp_keeps law
  | lineItem => exact (execLineItem_leaves s).keeps law
  | waitingRunPlaced => exact (execWaitingRunPlaced_leaves s).keeps law
  | frameEnd => exact (execFrameEnd_leaves s).keeps law
  | fillSweepRun => exact (execFillSweepRun_leaves s).keeps law
  | postureNotice => exact execPostureNotice_keeps law
  | mapSetNotice => exact execMapSetNotice_keeps law
  | guardStateNotice => exact execGuardStateNotice_keeps law
  | dropNotice => exact execDropNotice_keeps law
  | grant => exact (execGrant_leaves s).keeps law
  | turnaroundDone => exact (execTurnaroundDone_leaves s).keeps law
  | windowAccepted => exact (execWindowAccepted_leaves s).keeps law
  | reject => exact (execReject_leaves s).keeps law
  | retryDone => exact (execRetryDone_leaves s).keeps law
  | holdLimit pairsDone => exact (execHoldLimit_leaves pairsDone s).keeps law
  | runFinished => exact (execRunFinished_leaves s).keeps law
  | estopAsserted => exact (execEstopAsserted_leaves s).keeps law
  | guardTimerExpiry => exact (execGuardTimerExpiry_leaves s).keeps law
  | busStartSeen => exact ⟨_, rfl, SameLayouts.keeps law ⟨rfl, rfl⟩⟩
  | busStopSeen => exact ⟨_, rfl, SameLayouts.keeps law ⟨rfl, rfl⟩⟩
  | busIdleTimeout => exact ⟨_, rfl, SameLayouts.keeps law ⟨rfl, rfl⟩⟩
  | busLineLow => exact ⟨_, rfl, SameLayouts.keeps law ⟨rfl, rfl⟩⟩
  | periodEnd => exact ⟨_, rfl, SameLayouts.keeps law ⟨rfl, rfl⟩⟩
  | estopReleased => exact ⟨_, rfl, SameLayouts.keeps law ⟨rfl, rfl⟩⟩
  | tick => exact ⟨_, rfl, SameLayouts.keeps law ⟨rfl, rfl⟩⟩
  | attnPulseEnd => exact ⟨_, rfl, SameLayouts.keeps law ⟨rfl, rfl⟩⟩

/-- Settles O20: an idle step leaves the layouts as they are, and every command keeps their law. -/
theorem everyStepKeepsLayouts : Obligations.EveryStepKeepsLayouts := by
  intro s t law h
  unfold step at h
  split at h
  · cases h
    exact SameLayouts.keeps law ⟨rfl, rfl⟩
  · next c rest _ =>
    obtain ⟨t', ht', law'⟩ := exec_keepsLayouts (SameLayouts.keeps law (t := { s with pending := rest }) ⟨rfl, rfl⟩) c
    rw [ht'] at h
    cases h
    exact law'

end Sys2Proof.Machine
end

section
/-! What the commands of chapter 1 answer: the turn of a packet at the head of the command queue, the edits by the
outcome of their tests, and the bytes of entries (R8 to R22). -/

namespace Sys2Proof.Machine

open Sys2Proof.Safety

/-! ### A command whose packet is at the head (R163 to R167) -/

/-- A command that is asked for and has its turn: its action, and the RESP of its packet. The action leaves the command
queue as it is. -/
theorem carryOut_of_asks {s t : State} {p : Packet} {rest : List Packet} {code : Byte} {operands : List Byte}
    (asked : Asks s p rest code operands) {fits : List Byte → Bool} (hfits : fits operands = true) {exempt : Bool}
    (idle : s.loader.running = false ∨ exempt = true) {act : List Byte → State → Reply} {status : Status}
    {data : List Byte} (reply : act operands s = ⟨status, data, t⟩) (queue : t.control = s.control) :
    s.carryOut code fits exempt act = answered t p rest status data := by
  have granted : s.turn code fits exempt = .granted operands := by
    have busy : ¬ (s.loader.running = true ∧ exempt = false) := by
      rintro ⟨h1, h2⟩
      rcases idle with h | h
      · simp [h] at h1
      · simp [h] at h2
    simp [State.turn, asked.head, asked.codeIs, asked.operandsAre, asked.countIs, hfits, busy]
  have head : t.control.queue = p :: rest := queue ▸ asked.head
  simp only [State.carryOut, granted, reply]
  simp [State.respond, head, answered]

/-- A refused command changes nothing but what its RESP changes (R165, R166). -/
theorem carryOut_of_asks_refused {s : State} {p : Packet} {rest : List Packet} {code : Byte} {operands : List Byte}
    (asked : Asks s p rest code operands) {fits : List Byte → Bool} (hfits : fits operands = true) {exempt : Bool}
    (idle : s.loader.running = false ∨ exempt = true) {act : List Byte → State → Reply} {status : Status}
    (reply : act operands s = .refuse status s) :
    s.carryOut code fits exempt act = answered s p rest status [] :=
  carryOut_of_asks asked hfits idle reply rfl

/-! ### The tests of an edit and its reply (R8) -/

theorem LayoutStore.edit_range (st : LayoutStore) {n : Nat} (needs : Bool) (change : Layout → Option Layout)
    (h : 8 ≤ n) : st.edit n needs change = .error .range := by
  simp [LayoutStore.edit, LayoutStore.editTests, Nat.not_lt.mpr h]

theorem LayoutStore.edit_zero (st : LayoutStore) (needs : Bool) (change : Layout → Option Layout) :
    st.edit 0 needs change = .error .state := by
  simp [LayoutStore.edit, LayoutStore.editTests]

theorem LayoutStore.edit_inUse (st : LayoutStore) {i : Fin 8} (needs : Bool) (change : Layout → Option Layout)
    (hi : i ≠ 0) (used : st.inUse i = true) : st.edit i.val needs change = .error .inUse := by
  have h0 : i.val ≠ 0 := fun h => hi (Fin.ext h)
  simp [LayoutStore.edit, LayoutStore.editTests, h0, used]

theorem LayoutStore.editTests_of_free (st : LayoutStore) {i : Fin 8} (hi : i ≠ 0) (free : st.inUse i = false) :
    st.editTests i.val = .ok i :=
  (st.editTests_ok i.val i).mpr ⟨rfl, fun h => hi (Fin.ext h), free⟩

theorem LayoutStore.edit_empty (st : LayoutStore) {i : Fin 8} (change : Layout → Option Layout)
    (hi : i ≠ 0) (free : st.inUse i = false) (empty : st.slots[i].state = .empty) :
    st.edit i.val true change = .error .state := by
  unfold LayoutStore.edit
  rw [st.editTests_of_free hi free]
  exact if_pos ⟨rfl, empty⟩

/-- An edit that passes tests 1 to 4 and changes the layout writes the slot as EDITING (R8). -/
theorem LayoutStore.edit_changed (st : LayoutStore) {i : Fin 8} {needs : Bool} {change : Layout → Option Layout}
    {l : Layout} (hi : i ≠ 0) (free : st.inUse i = false) (filled : needs = true → st.slots[i].state ≠ .empty)
    (changed : change st.slots[i].layout = some l) :
    st.edit i.val needs change = .ok (⟨.editing, l⟩, { st with slots := st.slots.set i ⟨.editing, l⟩ }) := by
  simp only [LayoutStore.edit, st.editTests_of_free hi free, changed]
  exact if_neg fun h => filled h.1 h.2

/-- An edit that passes tests 1 to 4 with operands outside their ranges is RANGE (R8, test 5). -/
theorem LayoutStore.edit_unchanged (st : LayoutStore) {i : Fin 8} {needs : Bool} {change : Layout → Option Layout}
    (hi : i ≠ 0) (free : st.inUse i = false) (filled : needs = true → st.slots[i].state ≠ .empty)
    (unchanged : change st.slots[i].layout = none) : st.edit i.val needs change = .error .range := by
  simp only [LayoutStore.edit, st.editTests_of_free hi free, unchanged]
  exact if_neg fun h => filled h.1 h.2

/-- The reply to an edit that passes tests 1 to 4 and changes the layout. -/
theorem State.editReply_done (s : State) {n : Byte} {i : Fin 8} {needs : Bool} {change : Layout → Option Layout}
    {l : Layout} (hin : i.val = n.toNat) (hi : i ≠ 0) (free : s.store.inUse i = false)
    (filled : needs = true → s.store.slots[i].state ≠ .empty) (changed : change s.store.slots[i].layout = some l) :
    s.editReply n needs change =
      ⟨.ok, [1, byteOf l.entries.length],
        { s with store := { s.store with slots := s.store.slots.set i ⟨.editing, l⟩ } }⟩ := by
  unfold State.editReply
  rw [← hin, s.store.edit_changed hi free filled changed]
  rfl

theorem State.editReply_error (s : State) {n : Byte} {needs : Bool} {change : Layout → Option Layout} {status : Status}
    (h : s.store.edit n.toNat needs change = .error status) : s.editReply n needs change = .refuse status s := by
  unfold State.editReply
  rw [h]

/-- The reply to an edit that passes tests 1 to 4 and whose operands lie outside their ranges (test 5). -/
theorem State.editReply_range (s : State) {n : Byte} {i : Fin 8} {needs : Bool} {change : Layout → Option Layout}
    (hin : i.val = n.toNat) (hi : i ≠ 0) (free : s.store.inUse i = false)
    (filled : needs = true → s.store.slots[i].state ≠ .empty) (unchanged : change s.store.slots[i].layout = none) :
    s.editReply n needs change = .refuse .range s :=
  s.editReply_error (hin ▸ s.store.edit_unchanged hi free filled unchanged)

/-- The four edit commands are one: an edit with a change of its own, carried out on its operands. -/
theorem exec_editCommand {row : Instr × Byte × Nat × Bool} (h : row ∈ editCommands) {n : Byte} {more : List Byte}
    (hlen : (n :: more).length = row.2.2.1) :
    ∃ (act : List Byte → State → Reply) (change : Layout → Option Layout),
      (∀ s, exec row.1 s = .next (s.carryOut row.2.1 (lengthIs row.2.2.1) false act))
        ∧ ∀ s, act (n :: more) s = s.editReply n row.2.2.2 change := by
  simp only [editCommands, List.mem_cons, List.not_mem_nil, or_false] at h
  rcases h with rfl | rfl | rfl | rfl <;> simp only [List.length_cons] at hlen
  · obtain rfl : more = [] := List.length_eq_zero_iff.mp (by omega)
    exact ⟨slotClearAction, _, fun _ => rfl, fun _ => rfl⟩
  · obtain ⟨f, sp, b, rfl⟩ := List.length_eq_three.mp (show more.length = 3 by omega)
    exact ⟨slotZonesAction, _, fun _ => rfl, fun _ => rfl⟩
  · obtain ⟨index, bytes, rfl⟩ := List.exists_cons_of_length_eq_add_one (show more.length = 20 + 1 by omega)
    exact ⟨entryPutAction, _, fun _ => rfl, fun _ => rfl⟩
  · obtain rfl : more = [] := List.length_eq_zero_iff.mp (by omega)
    exact ⟨entryDropAction, _, fun _ => rfl, fun _ => rfl⟩

/-- Settles O9: by the equation of the edit for each of its tests 1 to 4. -/
theorem editAdmission : Obligations.EditAdmission := by
  intro row hrow s p rest n more asked hlen idle
  obtain ⟨act, change, hexec, hact⟩ := exec_editCommand hrow hlen
  have refused : ∀ {status : Status}, s.store.edit n.toNat row.2.2.2 change = .error status →
      exec row.1 s = .next (answered s p rest status []) := fun h => by
    rw [hexec, carryOut_of_asks_refused asked (by simpa [lengthIs] using hlen) (.inl idle)
      ((hact s).trans (s.editReply_error h))]
  refine ⟨fun h8 => refused (s.store.edit_range _ _ h8), fun h0 => refused ?_, fun i hin hi used => refused ?_,
    fun i hin hi free empty needs => refused ?_⟩
  · rw [h0]
    exact s.store.edit_zero _ _
  · rw [← hin]
    exact s.store.edit_inUse _ _ hi used
  · rw [← hin, needs]
    exact s.store.edit_empty _ hi free empty

/-! ### SLOT_CLEAR, SLOT_ZONES and ENTRY_DROP (R9, R10, R13) -/

/-- Settles O10: the change of SLOT_CLEAR always gives the empty layout. -/
theorem slotClearEffect : Obligations.SlotClearEffect := by
  intro s p rest n i asked idle hin hi free
  have reply : slotClearAction [n] s = s.editReply n false fun _ => some emptyLayout := rfl
  exact congrArg Host.Outcome.next (carryOut_of_asks asked rfl (.inl idle)
    (reply.trans (s.editReply_done (l := emptyLayout) hin hi free (by simp) rfl)) rfl)

@[simp] theorem ZoneMode.ofCode?_code (m : ZoneMode) : ZoneMode.ofCode? m.code = some m := by
  cases m <;> rfl

theorem ZoneMode.ofCode?_eq_none {n : Nat} (h : 2 < n) : ZoneMode.ofCode? n = none := by
  match n, h with
  | n + 3, _ => rfl

theorem parseModes_codes {modes : PerZone ZoneMode} {f sp b : Byte} (hf : modes.front.code = f.toNat)
    (hs : modes.spine.code = sp.toNat) (hb : modes.back.code = b.toNat) : parseModes f sp b = some modes := by
  simp [parseModes, ← hf, ← hs, ← hb]

theorem parseModes_eq_none {f sp b : Byte} (h : 2 < f.toNat ∨ 2 < sp.toNat ∨ 2 < b.toNat) :
    parseModes f sp b = none := by
  unfold parseModes
  split
  · next hf hs hb =>
    rcases h with h | h | h <;> simp [ZoneMode.ofCode?_eq_none h] at hf hs hb
  · rfl

/-- Settles O11: the codes of three modes are read back as these modes, and a value above 2 as none. -/
theorem slotZonesEffect : Obligations.SlotZonesEffect := by
  intro s p rest n f sp b i asked idle hin hi free filled
  have reply : slotZonesAction [n, f, sp, b] s =
      s.editReply n true fun l => (parseModes f sp b).map fun m => { l with modes := m } := rfl
  refine ⟨fun modes hf hs hb => ?_, fun h => ?_⟩
  · have modesRead : (parseModes f sp b).map (fun m => { s.store.slots[i].layout with modes := m }) =
        some ⟨modes, s.store.slots[i].layout.entries⟩ := by rw [parseModes_codes hf hs hb]; rfl
    exact congrArg Host.Outcome.next (carryOut_of_asks asked rfl (.inl idle)
      (reply.trans (s.editReply_done (l := ⟨modes, _⟩) hin hi free (fun _ => filled) modesRead)) rfl)
  · exact congrArg Host.Outcome.next (carryOut_of_asks_refused asked rfl (.inl idle)
      (reply.trans (s.editReply_range hin hi free (fun _ => filled) (by rw [parseModes_eq_none h]; rfl))))

theorem Layout.dropEntry_of_eq_append {l : Layout} {kept : List Entry} {last : Entry}
    (h : l.entries = kept ++ [last]) : l.dropEntry = some ⟨l.modes, kept⟩ := by
  simp [Layout.dropEntry, h]

theorem Layout.dropEntry_of_eq_nil {l : Layout} (h : l.entries = []) : l.dropEntry = none := by
  simp [Layout.dropEntry, h]

/-- Settles O14: the last entry is dropped, and an empty list has none. -/
theorem entryDropEffect : Obligations.EntryDropEffect := by
  intro s p rest n i asked idle hin hi free filled
  have reply : entryDropAction [n] s = s.editReply n true Layout.dropEntry := rfl
  refine ⟨fun kept last h => ?_, fun h => ?_⟩
  · exact congrArg Host.Outcome.next (carryOut_of_asks asked rfl (.inl idle)
      (reply.trans (s.editReply_done hin hi free (fun _ => filled) (Layout.dropEntry_of_eq_append h))) rfl)
  · exact congrArg Host.Outcome.next (carryOut_of_asks_refused asked rfl (.inl idle)
      (reply.trans (s.editReply_range hin hi free (fun _ => filled) (Layout.dropEntry_of_eq_nil h))))

end Sys2Proof.Machine
end

section
/-! Entry records as bytes, and the commands that read and write them: ENTRY_PUT, SLOT_CHECK, SLOT_READ and MAP_SET
(R11 to R22, 10.5). -/

namespace Sys2Proof.Machine

open Sys2Proof.Safety

/-! ### Two-byte values and components (R172) -/

theorem be16_wordBytes {n : Nat} (h : n < 65536) : be16 (byteOf (n / 256)) (byteOf n) = n := by
  simp only [be16, byteOf, BitVec.toNat_ofNat]
  omega

theorem component_of_le {hi lo : Byte} (h : be16 hi lo ≤ 1023) :
    component hi lo = some (BitVec.ofNat 10 (be16 hi lo)) := if_pos h

theorem component_eq_none {hi lo : Byte} (h : ¬ be16 hi lo ≤ 1023) : component hi lo = none := if_neg h

/-! ### An entry record (R6, R12) -/

section

variable (c1 c0 r1 r0 w1 w0 h1 h0 x1 x0 y1 y0 mirror red1 red0 green1 green0 blue1 blue0 : Byte)

/-- A COPY record: the mirror byte, then the ranges; the colour is not tested (R12). -/
theorem parseEntry_copy :
    parseEntry [0, c1, c0, r1, r0, w1, w0, h1, h0, x1, x0, y1, y0, mirror, red1, red0, green1, green0, blue1, blue0] =
      let e : Entry := ⟨⟨be16 c1 c0, be16 r1 r0, be16 w1 w0, be16 h1 h0⟩,
        .copy (be16 x1 x0) (be16 y1 y0) (decide (mirror = 1))⟩
      if mirror.toNat ≤ 1 ∧ e.inRange = true then some e else none := by
  have codes : mirror.toNat ≤ 1 ↔ mirror = 0 ∨ mirror = 1 := by bv_omega
  by_cases hm0 : mirror = 0
  · simp [parseEntry, hm0]
  · by_cases hm1 : mirror = 1
    · simp [parseEntry, hm1]
    · simp only [parseEntry, if_true, if_neg hm0, if_neg hm1]
      exact (if_neg fun h => (codes.mp h.1).elim hm0 hm1).symm

/-- A FILL record: the components, then the ranges; source and mirror are not tested (R12). -/
theorem parseEntry_fill :
    parseEntry [1, c1, c0, r1, r0, w1, w0, h1, h0, x1, x0, y1, y0, mirror, red1, red0, green1, green0, blue1, blue0] =
      let e : Entry := ⟨⟨be16 c1 c0, be16 r1 r0, be16 w1 w0, be16 h1 h0⟩,
        .fill ⟨BitVec.ofNat 10 (be16 red1 red0), BitVec.ofNat 10 (be16 green1 green0),
          BitVec.ofNat 10 (be16 blue1 blue0)⟩⟩
      if (be16 red1 red0 ≤ 1023 ∧ be16 green1 green0 ≤ 1023 ∧ be16 blue1 blue0 ≤ 1023) ∧ e.inRange = true then some e
      else none := by
  by_cases hr : be16 red1 red0 ≤ 1023
  · by_cases hg : be16 green1 green0 ≤ 1023
    · by_cases hb : be16 blue1 blue0 ≤ 1023
      · simp [parseEntry, component_of_le hr, component_of_le hg, component_of_le hb, hr, hg, hb]
      · simp [parseEntry, component_of_le hr, component_of_le hg, component_eq_none hb, hb]
    · simp [parseEntry, component_of_le hr, component_eq_none hg, hg]
  · simp [parseEntry, component_eq_none hr, hr]

theorem parseEntry_otherKind {kind : Byte} (hk0 : kind ≠ 0) (hk1 : kind ≠ 1) :
    parseEntry [kind, c1, c0, r1, r0, w1, w0, h1, h0, x1, x0, y1, y0, mirror, red1, red0, green1, green0, blue1,
      blue0] = none := by
  simp only [parseEntry, if_neg hk0, if_neg hk1]

end

theorem Entry.inRange_copy_iff (dst : Rect) (srcCol srcRow : Nat) (mirror : Bool) :
    Entry.inRange ⟨dst, .copy srcCol srcRow mirror⟩ = true ↔
      (dst.col ≤ 1799 ∧ dst.row ≤ 2399 ∧ 2 ≤ dst.width ∧ dst.width ≤ 864 ∧ 1 ≤ dst.height ∧ dst.height ≤ 2400)
        ∧ srcCol ≤ 1799 ∧ srcRow ≤ 2399 := by
  simp [Entry.inRange]

theorem Entry.inRange_fill_iff (dst : Rect) (colour : Pixel) :
    Entry.inRange ⟨dst, .fill colour⟩ = true ↔
      dst.col ≤ 1799 ∧ dst.row ≤ 2399 ∧ 2 ≤ dst.width ∧ dst.width ≤ 864 ∧ 1 ≤ dst.height ∧ dst.height ≤ 2400 := by
  simp [Entry.inRange]

theorem Entry.length_bytes (e : Entry) : e.bytes.length = 20 := by
  obtain ⟨dst, body⟩ := e
  cases body <;> rfl

/-- The record that SLOT_READ returns for an entry is the record that ENTRY_PUT takes for it (10.5). -/
theorem parseEntry_bytes {e : Entry} (h : e.inRange = true) : parseEntry e.bytes = some e := by
  obtain ⟨⟨col, row, width, height⟩, body⟩ := e
  cases body with
  | copy srcCol srcRow mirror =>
    obtain ⟨⟨hc, hr, -, hw, -, hh⟩, hx, hy⟩ := (Entry.inRange_copy_iff ..).mp h
    dsimp only at hc hr hw hh
    have flag : (boolByte mirror).toNat ≤ 1 ∧ decide (boolByte mirror = 1) = mirror := by cases mirror <;> decide
    refine (parseEntry_copy ..).trans ?_
    simp (disch := omega) only [be16_wordBytes, flag.2]
    exact if_pos ⟨flag.1, h⟩
  | fill colour =>
    obtain ⟨hc, hr, -, hw, -, hh⟩ := (Entry.inRange_fill_iff ..).mp h
    dsimp only at hc hr hw hh
    obtain ⟨r, g, b⟩ := colour
    have hred := r.isLt
    have hgreen := g.isLt
    have hblue := b.isLt
    refine (parseEntry_fill ..).trans ?_
    simp (disch := omega) only [be16_wordBytes, BitVec.ofNat_toNat, BitVec.setWidth_eq]
    exact if_pos ⟨by omega, h⟩

/-! ### ENTRY_PUT (R11, R12) -/

theorem Layout.putEntry_of_lt {l : Layout} {index : Nat} (e : Entry) (h : index < l.entries.length) :
    l.putEntry index e = some ⟨l.modes, l.entries.set index e⟩ := if_pos h

theorem Layout.putEntry_of_eq {l : Layout} {index : Nat} (e : Entry) (h : index = l.entries.length)
    (room : l.entries.length < 12) : l.putEntry index e = some ⟨l.modes, l.entries ++ [e]⟩ := by
  simp [Layout.putEntry, h, room]

theorem Layout.putEntry_eq_none {l : Layout} {index : Nat} (e : Entry) (h : l.entries.length ≤ index)
    (full : index = l.entries.length → 12 ≤ l.entries.length) : l.putEntry index e = none := by
  unfold Layout.putEntry
  rw [if_neg (by omega), if_neg (by omega)]

/-- An entry that is put stands at its index (R11). -/
theorem Layout.exists_putEntry {l : Layout} {index : Nat} (e : Entry) (h : index ≤ l.entries.length)
    (small : index < 12) : ∃ l', l.putEntry index e = some l' ∧ l'.entries[index]? = some e := by
  rcases Nat.lt_or_eq_of_le h with h | h
  · exact ⟨_, l.putEntry_of_lt e h, by simp [h]⟩
  · exact ⟨_, l.putEntry_of_eq e h (by omega), by simp [h]⟩

/-- Settles O12: the record of an entry is read back as the entry, which is put by its index. -/
theorem entryPutEffect : Obligations.EntryPutEffect := by
  intro s p rest n index e i asked idle hin hi free filled ranges l
  have reply : entryPutAction (n :: index :: e.bytes) s =
      s.editReply n true fun l => (parseEntry e.bytes).bind (l.putEntry index.toNat) := rfl
  have fits : lengthIs 22 (n :: index :: e.bytes) = true := by simp [lengthIs, e.length_bytes]
  have change : (parseEntry e.bytes).bind (l.putEntry index.toNat) = l.putEntry index.toNat e := by
    rw [parseEntry_bytes ranges]
    rfl
  have put : ∀ {l'}, l.putEntry index.toNat e = some l' → exec .entryPut s = .next (answered
      { s with store := { s.store with slots := s.store.slots.set i ⟨.editing, l'⟩ } } p rest .ok
        [1, byteOf l'.entries.length]) := fun h =>
    congrArg Host.Outcome.next (carryOut_of_asks asked fits (.inl idle)
      (reply.trans (s.editReply_done hin hi free (fun _ => filled) (change.trans h))) rfl)
  have range : l.putEntry index.toNat e = none → exec .entryPut s = .next (answered s p rest .range []) := fun h =>
    congrArg Host.Outcome.next (carryOut_of_asks_refused asked fits (.inl idle)
      (reply.trans (s.editReply_range hin hi free (fun _ => filled) (change.trans h))))
  refine ⟨fun h => ?_, fun h room => ?_, fun h full => range ?_, fun h => range ?_⟩
  · have := put (l.putEntry_of_lt e h)
    rwa [List.length_set] at this
  · have := put (l.putEntry_of_eq e h room)
    rwa [List.length_append] at this
  · exact l.putEntry_eq_none e h.ge fun _ => full
  · exact l.putEntry_eq_none e h.le fun h' => absurd h' h.ne'

/-- Settles O13: a record is read exactly when the fields of its kind lie in their ranges. -/
theorem entryPutFieldTests : Obligations.EntryPutFieldTests := by
  intro s p rest n index kind mirror c1 c0 r1 r0 w1 w0 h1 h0 x1 x0 y1 y0 red1 red0 green1 green0 blue1 blue0 i
    asked idle hin hi free filled hindex small word inRange
  have reply : ∀ bytes, entryPutAction (n :: index :: bytes) s =
      s.editReply n true fun l => (parseEntry bytes).bind (l.putEntry index.toNat) := fun _ => rfl
  have refused : parseEntry [kind, c1, c0, r1, r0, w1, w0, h1, h0, x1, x0, y1, y0, mirror, red1, red0, green1, green0,
      blue1, blue0] = none → exec .entryPut s = .next (answered s p rest .range []) := fun h =>
    congrArg Host.Outcome.next (carryOut_of_asks_refused asked rfl (.inl idle)
      ((reply _).trans (s.editReply_range hin hi free (fun _ => filled) (by rw [h]; rfl))))
  have stored : ∀ e, parseEntry [kind, c1, c0, r1, r0, w1, w0, h1, h0, x1, x0, y1, y0, mirror, red1, red0, green1,
      green0, blue1, blue0] = some e → ∃ t : State, exec .entryPut s = .next t ∧ t.store.slots[i].state = .editing
        ∧ t.store.slots[i].layout.entries[index.toNat]? = some e := fun e h => by
    obtain ⟨l', put, hl'⟩ := Layout.exists_putEntry e hindex small
    have slot := getElem_set_fin s.store.slots i i ⟨.editing, l'⟩
    rw [if_pos rfl] at slot
    refine ⟨_, congrArg Host.Outcome.next (carryOut_of_asks asked rfl (.inl idle)
      ((reply _).trans (s.editReply_done hin hi free (fun _ => filled) (by rw [h]; exact put))) rfl), ?_, ?_⟩
    · exact congrArg Slot.state slot
    · exact (congrArg (fun slot : Slot => slot.layout.entries[index.toNat]?) slot).trans hl'
  by_cases hk0 : kind = 0
  · subst hk0
    have ranges : inRange ↔ mirror.toNat ≤ 1 ∧ Entry.inRange ⟨⟨word c1 c0, word r1 r0, word w1 w0, word h1 h0⟩,
        .copy (word x1 x0) (word y1 y0) (decide (mirror = 1))⟩ = true := by
      rw [Entry.inRange_copy_iff]
      constructor
      · rintro ⟨-, hc, hr, hw, hw', hh, hh', copy, -⟩
        obtain ⟨hx, hy, hm⟩ := copy rfl
        exact ⟨hm, ⟨hc, hr, hw, hw', hh, hh'⟩, hx, hy⟩
      · rintro ⟨hm, ⟨hc, hr, hw, hw', hh, hh'⟩, hx, hy⟩
        exact ⟨by decide, hc, hr, hw, hw', hh, hh', fun _ => ⟨hx, hy, hm⟩, fun h => absurd h (by decide)⟩
    refine ⟨fun h => refused ((parseEntry_copy ..).trans (if_neg (mt ranges.mpr h))), fun h => ?_⟩
    obtain ⟨t, ht, hstate, hentry⟩ := stored _ ((parseEntry_copy ..).trans (if_pos (ranges.mp h)))
    exact ⟨t, ht, hstate, fun _ => hentry, fun h1 => absurd h1 (by decide)⟩
  by_cases hk1 : kind = 1
  · subst hk1
    have ranges : inRange ↔ (word red1 red0 ≤ 1023 ∧ word green1 green0 ≤ 1023 ∧ word blue1 blue0 ≤ 1023)
        ∧ Entry.inRange ⟨⟨word c1 c0, word r1 r0, word w1 w0, word h1 h0⟩,
          .fill ⟨BitVec.ofNat 10 (word red1 red0), BitVec.ofNat 10 (word green1 green0),
            BitVec.ofNat 10 (word blue1 blue0)⟩⟩ = true := by
      rw [Entry.inRange_fill_iff]
      constructor
      · rintro ⟨-, hc, hr, hw, hw', hh, hh', -, fill⟩
        exact ⟨fill rfl, hc, hr, hw, hw', hh, hh'⟩
      · rintro ⟨fill, hc, hr, hw, hw', hh, hh'⟩
        exact ⟨by decide, hc, hr, hw, hw', hh, hh', fun h => absurd h (by decide), fun _ => fill⟩
    refine ⟨fun h => refused ((parseEntry_fill ..).trans (if_neg (mt ranges.mpr h))), fun h => ?_⟩
    obtain ⟨t, ht, hstate, hentry⟩ := stored _ ((parseEntry_fill ..).trans (if_pos (ranges.mp h)))
    exact ⟨t, ht, hstate, fun h0 => absurd h0 (by decide), fun _ => hentry⟩
  · have outside : ¬ inRange := by
      rintro ⟨hk, -⟩
      have : kind ≠ 0 ∧ kind ≠ 1 := ⟨hk0, hk1⟩
      bv_omega
    exact ⟨fun _ => refused (parseEntry_otherKind (hk0 := hk0) (hk1 := hk1) ..), fun h => absurd h outside⟩

/-! ### SLOT_CHECK (R14, R18) -/

section

variable {s : State} {n : Byte} {i : Fin 8} (hin : i.val = n.toNat)

include hin

theorem slotCheckAction_of_empty (empty : s.store.slots[i].state = .empty) :
    slotCheckAction [n] s = .refuse .state s := by
  have hn : n.toNat < 8 := hin ▸ i.isLt
  obtain rfl : i = ⟨n.toNat, hn⟩ := Fin.ext hin
  have empty : s.store.slots[n.toNat].state = .empty := empty
  simp only [slotCheckAction, hn, ↓reduceDIte, empty]

theorem slotCheckAction_of_ready (ready : s.store.slots[i].state = .ready) :
    slotCheckAction [n] s = .done s.store.slots[i].summary s := by
  have hn : n.toNat < 8 := hin ▸ i.isLt
  obtain rfl : i = ⟨n.toNat, hn⟩ := Fin.ext hin
  have ready : s.store.slots[n.toNat].state = .ready := ready
  simp only [slotCheckAction, hn, ↓reduceDIte, ready]
  rfl

theorem slotCheckAction_of_passed (editing : s.store.slots[i].state = .editing)
    (passed : s.store.slots[i].layout.check = none) :
    slotCheckAction [n] s = .done (Slot.summary ⟨.ready, s.store.slots[i].layout⟩)
      { s with store := { s.store with slots := s.store.slots.set i ⟨.ready, s.store.slots[i].layout⟩ } } := by
  have hn : n.toNat < 8 := hin ▸ i.isLt
  obtain rfl : i = ⟨n.toNat, hn⟩ := Fin.ext hin
  have editing : s.store.slots[n.toNat].state = .editing := editing
  have passed : s.store.slots[n.toNat].layout.check = none := passed
  simp only [slotCheckAction, hn, ↓reduceDIte, editing, passed]
  rfl

theorem slotCheckAction_of_failed (editing : s.store.slots[i].state = .editing) {failure : CheckFailure}
    (failed : s.store.slots[i].layout.check = some failure) :
    slotCheckAction [n] s = ⟨.checkFailed, failure.bytes, s⟩ := by
  have hn : n.toNat < 8 := hin ▸ i.isLt
  obtain rfl : i = ⟨n.toNat, hn⟩ := Fin.ext hin
  have editing : s.store.slots[n.toNat].state = .editing := editing
  have failed : s.store.slots[n.toNat].layout.check = some failure := failed
  simp only [slotCheckAction, hn, ↓reduceDIte, editing, failed]

end

/-- Settles O15: by the state of the slot, and on EDITING by the outcome of the check. -/
theorem slotCheckEffect : Obligations.SlotCheckEffect := by
  intro s p rest n asked idle
  have done : ∀ {status data t}, slotCheckAction [n] s = ⟨status, data, t⟩ → t.control = s.control →
      exec .slotCheck s = .next (answered t p rest status data) := fun h queue =>
    congrArg Host.Outcome.next (carryOut_of_asks asked rfl (.inl idle) h queue)
  constructor
  · intro h8
    exact done (by simp [slotCheckAction, Nat.not_lt.mpr h8, Reply.refuse]) rfl
  · intro i hin l
    refine ⟨fun empty => done (slotCheckAction_of_empty hin empty) rfl, fun ready => ?_,
      fun editing passed => done (slotCheckAction_of_passed hin editing passed) rfl, fun failure editing failed => ?_⟩
    · refine (done (slotCheckAction_of_ready hin ready) rfl).trans ?_
      rw [Slot.summary, ready]
      rfl
    · refine (done (slotCheckAction_of_failed hin editing failed) rfl).trans ?_
      obtain ⟨⟨⟩, j⟩ | j | ⟨⟨⟩⟩ := failure <;> rfl

/-! ### SLOT_READ (R19, R20) -/

/-- The entries read from a list that holds some: from the index on, and on from 0 after the last (R20). -/
theorem readEntries_eq_map {entries : List Entry} (h : 0 < entries.length) (index n : Nat) :
    readEntries entries index n =
      (List.range (min n 4)).map fun j => entries[(index + j) % entries.length]'(Nat.mod_lt _ h) := by
  have filled : entries.isEmpty = false := by
    simpa using List.length_pos_iff.mp h
  rw [readEntries, filled]
  exact List.filterMap_eq_map_iff_forall_eq_some.mpr fun j _ => List.getElem?_eq_getElem _

section

variable {s : State} {n index count : Byte}

theorem slotReadAction_range (h : 8 ≤ n.toNat ∨ 12 ≤ index.toNat) :
    slotReadAction [n, index, count] s = .refuse .range s := by
  by_cases hn : n.toNat < 8
  · exact (dif_pos hn).trans (if_pos (by omega))
  · exact dif_neg hn

variable {i : Fin 8} (hin : i.val = n.toNat) (hindex : index.toNat ≤ 11)

include hin hindex

theorem slotReadAction_past (h : s.store.slots[i].layout.entries ≠ [])
    (past : s.store.slots[i].layout.entries.length ≤ index.toNat) :
    slotReadAction [n, index, count] s = .refuse .range s := by
  have hn : n.toNat < 8 := hin ▸ i.isLt
  obtain rfl : i = ⟨n.toNat, hn⟩ := Fin.ext hin
  exact (dif_pos hn).trans ((if_neg (by omega)).trans (if_pos ⟨fun h0 => h (List.length_eq_zero_iff.mp h0), past⟩))

theorem slotReadAction_done
    (h : s.store.slots[i].layout.entries = [] ∨ index.toNat < s.store.slots[i].layout.entries.length) :
    slotReadAction [n, index, count] s =
      .done ([byteOf s.store.slots[i].state.code] ++ modeBytes s.store.slots[i].layout.modes
        ++ [byteOf s.store.slots[i].layout.entries.length]
        ++ (readEntries s.store.slots[i].layout.entries index.toNat count.toNat).flatMap Entry.bytes) s := by
  have hn : n.toNat < 8 := hin ▸ i.isLt
  obtain rfl : i = ⟨n.toNat, hn⟩ := Fin.ext hin
  refine (dif_pos hn).trans ((if_neg (by omega)).trans (if_neg ?_))
  rintro ⟨h0, past⟩
  rcases h with h | h
  · exact h0 (List.length_eq_zero_iff.mpr h)
  · exact absurd h (Nat.not_lt.mpr past)

end

/-- Settles O16: by the tests of the slot number and the index, and the list of entries read. -/
theorem slotReadEffect : Obligations.SlotReadEffect := by
  intro s p rest n index count asked idle
  have done : ∀ {status data}, slotReadAction [n, index, count] s = ⟨status, data, s⟩ →
      exec .slotRead s = .next (answered s p rest status data) := fun h =>
    congrArg Host.Outcome.next (carryOut_of_asks asked rfl (.inl idle) h rfl)
  refine ⟨fun h => done (slotReadAction_range h), ?_⟩
  intro i hin hindex slot head
  refine ⟨fun empty => ?_, fun filled past => done (slotReadAction_past hin hindex filled past), fun before => ?_⟩
  · refine (done (slotReadAction_done hin hindex (.inl empty))).trans ?_
    rw [empty]
    simp only [head, slot, empty]
    rfl
  · refine ⟨_, done (slotReadAction_done hin hindex (.inr before)), ?_⟩
    have filled : 0 < slot.layout.entries.length := Nat.zero_lt_of_lt before
    rw [readEntries_eq_map filled]
    refine ⟨by simp, fun j hj => ?_⟩
    rw [List.length_map, List.length_range] at hj
    rw [List.getElem?_map, List.getElem?_range hj, List.getElem?_eq_getElem (Nat.mod_lt _ filled)]
    rfl

/-! ### MAP_SET (R22) -/

theorem Posture.ofMapCode?_eq_none {n : Nat} (h : n = 0 ∨ 4 < n) : Posture.ofMapCode? n = none := by
  match n, h with
  | 0, _ => rfl
  | n + 5, _ => rfl

theorem Posture.ofMapCode?_code {p : Posture} (h : p ≠ .unset) : Posture.ofMapCode? p.code = some p := by
  cases p with
  | unset => exact absurd rfl h
  | opened | bent | closedFront | closedBack => rfl

theorem Posture.exists_ofMapCode? {n : Nat} (h1 : 1 ≤ n) (h4 : n ≤ 4) : ∃ p, Posture.ofMapCode? n = some p := by
  match n, h1, h4 with
  | 1, _, _ => exact ⟨_, rfl⟩
  | 2, _, _ => exact ⟨_, rfl⟩
  | 3, _, _ => exact ⟨_, rfl⟩
  | 4, _, _ => exact ⟨_, rfl⟩

theorem State.offerToMap_range (s : State) (p : Posture) {n : Nat} (h : 8 ≤ n) :
    s.offerToMap p n = .error .range := dif_neg (Nat.not_lt.mpr h)

theorem State.offerToMap_state (s : State) (p : Posture) {i : Fin 8} (h : s.store.slots[i].state ≠ .ready) :
    s.offerToMap p i.val = .error .state := (dif_pos i.isLt).trans (if_neg h)

theorem State.offerToMap_ready (s : State) (p : Posture) {i : Fin 8} (h : s.store.slots[i].state = .ready) :
    s.offerToMap p i.val = .ok (State.notify
      { s with store := { s.store with pendingMap := s.store.pendingMap.setEntry p i } } .mapSet) :=
  (dif_pos i.isLt).trans (if_pos h)

/-- The map with one entry written, entry by entry (R22). -/
theorem PostureMap.setEntry_eq (m : PostureMap) (p : Posture) (n : Fin 8) :
    m.setEntry p n =
      { opened := if p = .opened then n else m.opened
        bent := if p = .bent then n else m.bent
        closedFront := if p = .closedFront then n else m.closedFront
        closedBack := if p = .closedBack then n else m.closedBack } := by
  cases p <;> rfl

theorem mapSetAction_badCode {code : Byte} (h : Posture.ofMapCode? code.toNat = none) (n : Byte) (s : State) :
    mapSetAction [code, n] s = .refuse .range s := by
  simp only [mapSetAction, h]

theorem mapSetAction_refused {code n : Byte} {s : State} {p : Posture} {status : Status}
    (hcode : Posture.ofMapCode? code.toNat = some p) (h : s.offerToMap p n.toNat = .error status) :
    mapSetAction [code, n] s = .refuse status s := by
  simp only [mapSetAction, hcode, h]

theorem mapSetAction_admitted {code n : Byte} {s t : State} {p : Posture}
    (hcode : Posture.ofMapCode? code.toNat = some p) (h : s.offerToMap p n.toNat = .ok t) :
    mapSetAction [code, n] s = .done [] t := by
  simp only [mapSetAction, hcode, h]

/-- Settles O17: by the posture code, then by the admission to the pending map. -/
theorem mapSetEffect : Obligations.MapSetEffect := by
  intro s p rest code n asked idle
  have done : ∀ {status data t}, mapSetAction [code, n] s = ⟨status, data, t⟩ → t.control = s.control →
      exec .mapSet s = .next (answered t p rest status data) := fun h queue =>
    congrArg Host.Outcome.next (carryOut_of_asks asked rfl (.inl idle) h queue)
  have refused : ∀ {posture status}, Posture.ofMapCode? code.toNat = some posture →
      s.offerToMap posture n.toNat = .error status → exec .mapSet s = .next (answered s p rest status []) :=
    fun hcode h => done (mapSetAction_refused hcode h) rfl
  refine ⟨fun h => ?_, fun i h1 h4 hin notReady => ?_, fun i posture hcode set hin ready => ?_⟩
  · by_cases bad : code.toNat = 0 ∨ 4 < code.toNat
    · exact done (mapSetAction_badCode (Posture.ofMapCode?_eq_none bad) n s) rfl
    · obtain ⟨posture, hp⟩ := Posture.exists_ofMapCode? (n := code.toNat) (by omega) (by omega)
      have h8 : 8 ≤ n.toNat := by
        rcases h with rfl | h | h
        · exact absurd (.inl rfl) bad
        · exact absurd (.inr h) bad
        · exact h
      exact refused hp (s.offerToMap_range posture h8)
  · obtain ⟨posture, hp⟩ := Posture.exists_ofMapCode? h1 h4
    exact refused hp (hin ▸ s.offerToMap_state posture notReady)
  · have admitted := s.offerToMap_ready posture ready
    rw [hin] at admitted
    rw [← PostureMap.setEntry_eq]
    exact done (mapSetAction_admitted (hcode ▸ Posture.ofMapCode?_code set) admitted) rfl

end Sys2Proof.Machine
end

section
/-! The start of a loader run, the reset tables, and the laws in the reset state (R4, R25, R26, R49, R63, R80, R106,
R119, R139, R154, R162, R171, R179, R180, R185). -/

namespace Sys2Proof.Machine

open Sys2Proof.Safety

/-! ### IMAGE_RELOAD (R25, R180) -/

theorem LayoutStore.atLoaderStart_slots (st : LayoutStore) (i : Fin 8) :
    st.atLoaderStart.slots[i] = if i = 0 then st.slots[0] else emptySlot :=
  clearedSlots_getElem st.slots[0] i

/-- Settles O32: the action is the start of a run, whose marker request finds the slot EMPTY or not. -/
theorem imageReloadStartsRun : Obligations.ImageReloadStartsRun := by
  intro s p rest asked idle
  refine ⟨s.store.atLoaderStart, s.store.atLoaderStart_slots 0, fun i hi => ?_, rfl, rfl, ?_⟩
  · exact (s.store.atLoaderStart_slots i).trans (if_neg hi)
  · refine (congrArg Host.Outcome.next (carryOut_of_asks (t := s.startRun) asked rfl (.inl idle) rfl rfl)).trans ?_
    simp only [State.startRun, State.request, SideBus.request, addressLimit]
    cases s.bus.slot <;> rfl

/-! ### The reset tables -/

theorem unityGains_getElem (c : Fin 72) : unityGains[c] = 1024 := by
  simp [unityGains]

theorem reset_slots (i : Fin 8) : State.reset.store.slots[i] = if i = 0 then identitySlot else emptySlot :=
  clearedSlots_getElem identitySlot i

theorem reset_lines (n : Fin 32) : State.reset.intake.lines[n] = none :=
  Vector.getElem_replicate n.isLt

theorem reset_buffers (n : Fin 2) : State.reset.gain.buffers[n] = ⟨unityGains, 0⟩ :=
  Vector.getElem_replicate n.isLt

/-- Settles O3: the tables field by field; the stores of fixed length by what each of their places holds. -/
theorem resetTables : Obligations.ResetTables := by
  refine ⟨⟨rfl, fun i hi => (reset_slots i).trans (if_neg hi), rfl, rfl⟩, rfl, rfl, ?intake, ?mapper, ?gain, ?engine,
    ⟨rfl, rfl, rfl, rfl, rfl⟩, rfl, rfl, rfl, ⟨rfl, rfl, rfl, rfl, rfl, rfl, rfl⟩⟩
  case intake => exact ⟨rfl, rfl, rfl, rfl, rfl, rfl, rfl, rfl, rfl, rfl, rfl, rfl, reset_lines⟩
  case mapper => exact ⟨rfl, rfl, rfl, rfl, rfl, rfl, rfl, rfl, rfl, rfl, rfl, rfl, rfl⟩
  case gain =>
    refine ⟨fun c => ⟨unityGains_getElem c, unityGains_getElem c⟩, fun n c => ?_, fun n => ?_, rfl, rfl, rfl⟩
    · rw [reset_buffers]
      exact unityGains_getElem c
    · rw [reset_buffers]
  case engine => exact ⟨rfl, rfl, rfl, rfl, rfl, rfl, rfl, rfl⟩

/-! ### The laws at reset -/

theorem reset_capacityLaw : CapacityLaw State.reset where
  commands := by decide
  items := by decide
  reservation := by decide
  runs d := by cases d <;> decide
  records := by decide

theorem reset_sensingLaw : SensingLaw State.reset where
  angles :=
    { rate := by decide, shift := by decide, thresholds := by decide, dwell := by decide, offset := by decide
      filter := nofun
      angle := by decide, weight := by decide, count := by decide
      candidate := iff_of_true rfl rfl
      misses := by decide, points := by decide }
  gains :=
    { flat := fun c => by rw [show State.reset.gain.flat[c] = 1024 from unityGains_getElem c]; decide
      fold := fun c => by rw [show State.reset.gain.fold[c] = 1024 from unityGains_getElem c]; decide
      buffers := fun n c => by rw [reset_buffers, unityGains_getElem]; decide }

/-- The slot holds the loader's first read, of the marker (log 5). -/
theorem reset_slotRequest : slotRequest State.reset.bus.slot = some (.nvm 0 1) := rfl

theorem reset_requestLaw : RequestLaw State.reset where
  sensor := by
    rw [reset_slotRequest]
    exact iff_of_false (by decide) (by rintro ⟨a, r, h⟩; cases h)
  nvm := iff_of_true rfl (.inl ⟨0, 1, rfl⟩)
  behind := nofun
  phase := iff_of_true rfl (by decide)
  header := nofun
  marker _ a n h := by
    rcases h with h | h <;> cases h
    rfl
  driven := iff_of_false (by decide) (by rintro ⟨r, h⟩; cases h)

theorem reset_accountLaw : AccountLaw State.reset :=
  ⟨rfl, nofun, nofun, iff_of_false (by decide) (by rintro ⟨r, h, -⟩; cases h)⟩

/-- No run is queued or in transfer. -/
theorem reset_heldRuns : heldRuns State.reset.engine = [] := rfl

theorem reset_transferLaw : TransferLaw State.reset where
  own d r h := by cases d <;> cases h
  waits := nofun
  busy := iff_of_false (by decide) (by decide)
  window h := by rcases h with h | h <;> cases h
  retry := nofun
  turnaround := nofun

theorem reset_referencesLaw : ReferencesLaw State.reset where
  lines n := by
    rw [reset_lines]
    exact ⟨rfl, rfl⟩
  snapshots n := by
    rw [reset_buffers]
    exact ⟨rfl, by decide⟩
  waitingLine := nofun
  spineOnly r h := by
    rw [reset_heldRuns] at h
    rcases h with h | h <;> cases h
  room := by decide
  transfer := reset_transferLaw

theorem reset_runsLaw : RunsLaw State.reset where
  layouts := reset_layoutsLaw
  held r h := by
    rw [reset_heldRuns] at h
    cases h
  waiting := nofun
  fills := nofun
  cursor := nofun

theorem reset_emissionLaw : EmissionLaw State.reset where
  zones z := by cases z <;> exact ⟨by decide, by decide, by decide, by decide⟩
  together z := by cases z <;> rfl
  period := by decide
  pendingPeriod := nofun
  step := by decide
  latched := nofun
  estop := nofun

theorem reset_guardLaw : GuardLaw State.reset.guard where
  codes := by decide
  live := nofun
  hold := nofun
  blank _ := rfl

/-- Settles O60: law by law. -/
theorem lawsHoldAtReset : Obligations.LawsHoldAtReset :=
  ⟨reset_layoutsLaw, reset_capacityLaw, reset_sensingLaw, reset_requestLaw, reset_accountLaw, reset_referencesLaw,
    reset_runsLaw, reset_emissionLaw, reset_guardLaw⟩

end Sys2Proof.Machine
end

section
/-! What a step keeps, for any property; and the commands that leave the posture unit, the gains, the side bus and the
loader as they are. -/

namespace Sys2Proof.Machine

open Sys2Proof.Safety

/-! ### What a step keeps -/

/-- The answer is a next state, with this property. -/
def Answers (P : State → Prop) (r : Result) : Prop := ∃ t, r = .next t ∧ P t

theorem Answers.mono {P Q : State → Prop} {r : Result} (h : Answers P r) (imp : ∀ t, P t → Q t) : Answers Q r := by
  obtain ⟨t, hr, ht⟩ := h
  exact ⟨t, hr, imp t ht⟩

/-- What idling keeps, what does not read the waiting commands, and what every command keeps, a step keeps. -/
theorem step_keeps {P : State → Prop} (idle : ∀ s : State, P s → P s.timePasses)
    (taken : ∀ (s : State) (rest : List Instr), P s → P { s with pending := rest })
    (commands : ∀ (c : Instr) (s : State), P s → Answers P (exec c s)) {s t : State} (h : P s)
    (hstep : step s = .next t) : P t := by
  unfold step at hstep
  split at hstep
  · cases hstep
    exact idle s h
  · next c rest _ =>
    obtain ⟨t', hanswer, ht'⟩ := commands c _ (taken s rest h)
    cases hanswer.symm.trans hstep
    exact ht'

/-- What a RESP keeps and the owning block's action keeps, the command keeps (R165). -/
theorem State.carryOut_keepsProp {P : State → Prop} {s : State} {code : Byte} {fits : List Byte → Bool}
    {exempt : Bool} {act : List Byte → State → Reply} (h : P s)
    (responded : ∀ (t : State) (status : Status) (data : List Byte), P t → P (t.respond status data))
    (acted : ∀ operands, s.turn code fits exempt = .granted operands → P (act operands s).after) :
    Answers P (.next (s.carryOut code fits exempt act)) := by
  refine ⟨_, rfl, ?_⟩
  obtain heq | ⟨status, -, heq⟩ | ⟨operands, granted, heq⟩ := s.carryOut_cases code fits exempt act <;> rw [heq]
  · exact h
  · exact responded s status [] h
  · exact responded _ _ _ (acted operands granted)

/-! ### Nothing of the sensing changes -/

/-- The tables, the points and the gains of the buffers are the same; the references to the buffers may differ. -/
structure SameGains (g g' : GainUnit) : Prop where
  flat : g'.flat = g.flat
  fold : g'.fold = g.fold
  foldPt : g'.foldPt = g.foldPt
  flatPt : g'.flatPt = g.flatPt
  buffers : ∀ n : Fin 2, g'.buffers[n].gains = g.buffers[n].gains

theorem SameGains.refl (g : GainUnit) : SameGains g g := ⟨rfl, rfl, rfl, rfl, fun _ => rfl⟩

theorem SameGains.trans {g g' g'' : GainUnit} (h : SameGains g g') (h' : SameGains g' g'') : SameGains g g'' :=
  ⟨h'.flat.trans h.flat, h'.fold.trans h.fold, h'.foldPt.trans h.foldPt, h'.flatPt.trans h.flatPt,
    fun n => (h'.buffers n).trans (h.buffers n)⟩

theorem GainUnit.changeRefs_sameGains (g : GainUnit) (n : Fin 2) (change : Nat → Nat) :
    SameGains g (g.changeRefs n change) := by
  refine ⟨rfl, rfl, rfl, rfl, fun m => ?_⟩
  rw [g.changeRefs_buffers]
  split
  · next h => rw [h]
  · rfl

/-- The posture unit, the side bus, the loader and all gains are the same. -/
structure SameUnits (s t : State) : Prop where
  posture : t.posture = s.posture
  bus : t.bus = s.bus
  loader : t.loader = s.loader
  gains : SameGains s.gain t.gain

theorem SameUnits.of_eq {s t : State} (posture : t.posture = s.posture) (bus : t.bus = s.bus)
    (loader : t.loader = s.loader) (gain : t.gain = s.gain) : SameUnits s t :=
  ⟨posture, bus, loader, by rw [gain]; exact .refl _⟩

theorem SameUnits.refl (s : State) : SameUnits s s := .of_eq rfl rfl rfl rfl

theorem SameUnits.trans {s t u : State} (h : SameUnits s t) (h' : SameUnits t u) : SameUnits s u :=
  ⟨h'.posture.trans h.posture, h'.bus.trans h.bus, h'.loader.trans h.loader, h.gains.trans h'.gains⟩

/-- The same, with the later change first. -/
theorem SameUnits.after {s t u : State} (h' : SameUnits t u) (h : SameUnits s t) : SameUnits s u := h.trans h'

theorem SameUnits.leaves {s t : State} (h : SameUnits s t) : Answers (SameUnits s) (.next t) := ⟨t, rfl, h⟩

/-! ### The shared operations -/

theorem State.offer_sameUnits (s : State) (b : ReportBody) : SameUnits s (s.offer b) := .of_eq rfl rfl rfl rfl

theorem State.respond_sameUnits (s : State) (status : Status) (data : List Byte) :
    SameUnits s (s.respond status data) := .of_eq (by simp) (by simp) (by simp) (by simp)

/-- A command leaves the units as they are when its action does (R165). -/
theorem State.carryOut_leavesUnits (s : State) (code : Byte) (fits : List Byte → Bool) (exempt : Bool)
    (act : List Byte → State → Reply) (same : ∀ operands, SameUnits s (act operands s).after) :
    Answers (SameUnits s) (.next (s.carryOut code fits exempt act)) :=
  State.carryOut_keepsProp (.refl s) (fun t status data h => h.trans (t.respond_sameUnits status data))
    fun operands _ => same operands

/-- A change of a run's references changes the gain unit by a reference count at most (R113). -/
theorem State.changeRunRefs_sameUnits (s : State) (r : Run) (onLine : Intake → Fin 32 → Intake)
    (change : Nat → Nat) : SameUnits s (s.changeRunRefs r onLine fun g n => g.changeRefs n change) := by
  refine ⟨rfl, rfl, rfl, ?_⟩
  unfold State.changeRunRefs
  dsimp only
  split
  · exact GainUnit.changeRefs_sameGains ..
  · exact .refl _

theorem State.placeRun_sameUnits (s : State) (r : Run) : SameUnits s (s.placeRun r) :=
  (s.changeRunRefs_sameUnits r Intake.addLineRef (· + 1)).trans (.of_eq rfl rfl rfl rfl)

theorem State.closeRun_sameUnits (s : State) (r : Run) : SameUnits s (s.closeRun r) :=
  (s.changeRunRefs_sameUnits r Intake.releaseLineRef (· - 1)).trans (.of_eq rfl rfl rfl rfl)

theorem State.estopActs_sameUnits (s : State) : SameUnits s s.estopActs := by
  unfold State.estopActs
  split
  · exact .of_eq rfl rfl rfl rfl
  · exact .refl s

/-! ### Layouts and maps -/

theorem State.editReply_sameUnits (s : State) (n : Byte) (needs : Bool) (change : Layout → Option Layout) :
    SameUnits s (s.editReply n needs change).after := by
  unfold State.editReply
  split <;> exact .of_eq rfl rfl rfl rfl

theorem slotClearAction_sameUnits (operands : List Byte) (s : State) :
    SameUnits s (slotClearAction operands s).after := by
  unfold slotClearAction
  split
  · exact s.editReply_sameUnits ..
  · exact .refl s

theorem slotZonesAction_sameUnits (operands : List Byte) (s : State) :
    SameUnits s (slotZonesAction operands s).after := by
  unfold slotZonesAction
  split
  · exact s.editReply_sameUnits ..
  · exact .refl s

theorem entryPutAction_sameUnits (operands : List Byte) (s : State) :
    SameUnits s (entryPutAction operands s).after := by
  unfold entryPutAction
  split
  · exact s.editReply_sameUnits ..
  · exact .refl s

theorem entryDropAction_sameUnits (operands : List Byte) (s : State) :
    SameUnits s (entryDropAction operands s).after := by
  unfold entryDropAction
  split
  · exact s.editReply_sameUnits ..
  · exact .refl s

theorem slotCheckAction_sameUnits (operands : List Byte) (s : State) :
    SameUnits s (slotCheckAction operands s).after := by
  unfold slotCheckAction
  split
  · split
    · dsimp only
      split
      · exact .refl s
      · exact .refl s
      · split <;> exact .of_eq rfl rfl rfl rfl
    · exact .refl s
  · exact .refl s

theorem slotReadAction_sameUnits (operands : List Byte) (s : State) :
    SameUnits s (slotReadAction operands s).after := by
  unfold slotReadAction
  split
  · split
    · dsimp only
      split
      · exact .refl s
      · split <;> exact .refl s
    · exact .refl s
  · exact .refl s

theorem State.offerToMap_sameUnits {s t : State} {p : Posture} {n : Nat} (ok : s.offerToMap p n = .ok t) :
    SameUnits s t := by
  unfold State.offerToMap at ok
  split at ok
  · split at ok <;> cases ok
    exact .of_eq rfl rfl rfl rfl
  · cases ok

theorem mapSetAction_sameUnits (operands : List Byte) (s : State) :
    SameUnits s (mapSetAction operands s).after := by
  unfold mapSetAction
  split
  · split
    · exact .refl s
    · split
      · exact .refl s
      · next ok => exact State.offerToMap_sameUnits ok
  · exact .refl s

/-! ### Profiles, emission, the guard, reports and status -/

theorem profileSetAction_sameUnits (operands : List Byte) (s : State) :
    SameUnits s (profileSetAction operands s).after := by
  unfold profileSetAction
  split
  · split <;> exact .of_eq rfl rfl rfl rfl
  · exact .refl s

theorem emitSetAction_sameUnits (operands : List Byte) (s : State) :
    SameUnits s (emitSetAction operands s).after := by
  unfold emitSetAction
  split
  · split <;> exact .of_eq rfl rfl rfl rfl
  · exact .refl s

theorem emitPeriodAction_sameUnits (operands : List Byte) (s : State) :
    SameUnits s (emitPeriodAction operands s).after := by
  unfold emitPeriodAction
  split <;> exact .of_eq rfl rfl rfl rfl

theorem emitFadeAction_sameUnits (operands : List Byte) (s : State) :
    SameUnits s (emitFadeAction operands s).after := by
  unfold emitFadeAction
  split <;> exact .of_eq rfl rfl rfl rfl

theorem guardSetAction_sameUnits (operands : List Byte) (s : State) :
    SameUnits s (guardSetAction operands s).after := by
  unfold guardSetAction
  split <;> exact .of_eq rfl rfl rfl rfl

theorem reportReadAction_sameUnits (operands : List Byte) (s : State) :
    SameUnits s (reportReadAction operands s).after := by
  unfold reportReadAction
  split
  · split <;> exact .of_eq rfl rfl rfl rfl
  · exact .refl s

theorem attnSetAction_sameUnits (operands : List Byte) (s : State) :
    SameUnits s (attnSetAction operands s).after := by
  unfold attnSetAction
  split
  · split <;> exact .of_eq rfl rfl rfl rfl
  · exact .refl s

theorem execCtrl_leavesUnits (first code count : Byte) (operands : List Byte) (s : State) :
    Answers (SameUnits s) (execCtrl first code count operands s) := by
  unfold execCtrl
  split <;> exact SameUnits.leaves (.of_eq rfl rfl rfl rfl)

theorem execUnknownCommand_leavesUnits (s : State) : Answers (SameUnits s) (execUnknownCommand s) := by
  unfold execUnknownCommand
  split
  · split
    · exact (SameUnits.refl s).leaves
    · exact (s.respond_sameUnits _ _).leaves
  · exact (SameUnits.refl s).leaves

theorem execGuardTimerExpiry_leavesUnits (s : State) : Answers (SameUnits s) (execGuardTimerExpiry s) := by
  unfold execGuardTimerExpiry
  split
  · split <;> exact SameUnits.leaves (.of_eq rfl rfl rfl rfl)
  · exact (SameUnits.refl s).leaves

theorem execEstopAsserted_leavesUnits (s : State) : Answers (SameUnits s) (execEstopAsserted s) :=
  SameUnits.leaves (.after (State.estopActs_sameUnits _) (.of_eq rfl rfl rfl rfl))

/-! ### Frame intake -/

theorem State.offerIntake_sameUnits (s : State) : SameUnits s s.offerIntake := by
  unfold State.offerIntake
  dsimp only
  split
  · exact .refl s
  · exact s.offer_sameUnits _

theorem State.truncateFrame_sameUnits (s : State) : SameUnits s s.truncateFrame := by
  unfold State.truncateFrame
  split
  · exact .refl s
  · exact .after (State.offerIntake_sameUnits _) (.of_eq rfl rfl rfl rfl)
  · exact .after (State.offerIntake_sameUnits _) (.of_eq rfl rfl rfl rfl)

theorem State.fopenArrival_sameUnits (s : State) : SameUnits s s.fopenArrival := by
  unfold State.fopenArrival
  split <;> exact .of_eq rfl rfl rfl rfl

theorem execFopen_leavesUnits (frame width height : Word16) (s : State) :
    Answers (SameUnits s) (execFopen frame width height s) :=
  SameUnits.leaves (.after (State.fopenArrival_sameUnits _)
    (s.truncateFrame_sameUnits.trans (.of_eq rfl rfl rfl rfl)))

theorem execLine_leavesUnits (row : Word16) (payload : List Pixel) (s : State) :
    Answers (SameUnits s) (execLine row payload s) := by
  unfold execLine State.strayLine
  split
  · split <;> exact SameUnits.leaves (.of_eq rfl rfl rfl rfl)
  · exact SameUnits.leaves (.of_eq rfl rfl rfl rfl)
  · exact SameUnits.leaves (.of_eq rfl rfl rfl rfl)

theorem execFclose_leavesUnits (linesSent : Word16) (s : State) : Answers (SameUnits s) (execFclose linesSent s) := by
  unfold execFclose
  dsimp only
  split
  · exact (SameUnits.refl s).leaves
  · exact SameUnits.leaves (.after (State.offerIntake_sameUnits _) (.of_eq rfl rfl rfl rfl))
  · exact SameUnits.leaves (.after (State.offerIntake_sameUnits _) (.of_eq rfl rfl rfl rfl))

/-! ### Copy runs, the fill sweep and notices -/

theorem State.examineLine_sameUnits (s : State) (f : FrameInHand) (l : LineInHand) :
    SameUnits s (s.examineLine f l) :=
  examineEntries_induction (P := SameUnits s) (Q := SameUnits s) s.mapper.copy.modes f l.slot l.row
    (fun t r _ same _ _ => same.trans (t.placeRun_sameUnits r))
    (fun _ same => same.trans (.of_eq rfl rfl rfl rfl))
    (fun _ _ _ _ same _ _ => same.trans (.of_eq rfl rfl rfl rfl))
    _ _ _ (.refl s)

theorem execLineItem_leavesUnits (s : State) : Answers (SameUnits s) (execLineItem s) := by
  unfold execLineItem
  split
  · exact SameUnits.leaves (.after (State.examineLine_sameUnits ..) (.of_eq rfl rfl rfl rfl))
  · exact (SameUnits.refl s).leaves

theorem execFrameEnd_leavesUnits (s : State) : Answers (SameUnits s) (execFrameEnd s) := by
  unfold execFrameEnd
  split <;> exact SameUnits.leaves (.of_eq rfl rfl rfl rfl)

theorem State.placeFill_sameUnits (s : State) (r : Run) : SameUnits s (s.placeFill r) :=
  (s.placeRun_sameUnits r).trans (.of_eq rfl rfl rfl rfl)

theorem execFillSweepRun_leavesUnits (s : State) : Answers (SameUnits s) (execFillSweepRun s) := by
  unfold execFillSweepRun
  split
  · split
    · exact (SameUnits.refl s).leaves
    · dsimp only
      split
      · exact (s.placeFill_sameUnits _).leaves
      · exact SameUnits.leaves (.of_eq rfl rfl rfl rfl)
  · exact (SameUnits.refl s).leaves

theorem execWaitingRunPlaced_leavesUnits (s : State) : Answers (SameUnits s) (execWaitingRunPlaced s) := by
  unfold execWaitingRunPlaced
  split
  · exact (SameUnits.refl s).leaves
  · next r _ =>
    have taken : SameUnits s { s with mapper := { s.mapper with waitingRun := none } } := .of_eq rfl rfl rfl rfl
    split
    · dsimp only
      split
      · exact (taken.trans (State.placeFill_sameUnits ..)).leaves
      · split
        · exact ((taken.trans (State.placeRun_sameUnits ..)).trans (State.examineLine_sameUnits ..)).leaves
        · exact (taken.trans (State.placeRun_sameUnits ..)).leaves
    · exact (SameUnits.refl s).leaves

theorem State.layoutNotice_sameUnits (s : State) : SameUnits s s.layoutNotice := by
  unfold State.layoutNotice
  split <;> exact .of_eq rfl rfl rfl rfl

theorem State.guardNotice_sameUnits (s : State) (new : GuardState) : SameUnits s (s.guardNotice new) := by
  unfold State.guardNotice
  dsimp only
  split <;> exact .of_eq rfl rfl rfl rfl

/-- The state in which a notice has been taken. -/
theorem State.takeNotice_sameUnits (s : State) (m : Mapper) : SameUnits s { s with mapper := m } :=
  .of_eq rfl rfl rfl rfl

theorem execPostureNotice_leavesUnits (s : State) : Answers (SameUnits s) (execPostureNotice s) := by
  unfold execPostureNotice
  split
  · exact ((s.takeNotice_sameUnits _).trans (State.layoutNotice_sameUnits _)).leaves
  · exact (SameUnits.refl s).leaves

theorem execMapSetNotice_leavesUnits (s : State) : Answers (SameUnits s) (execMapSetNotice s) := by
  unfold execMapSetNotice
  split
  · exact ((s.takeNotice_sameUnits _).trans (State.layoutNotice_sameUnits _)).leaves
  · exact (SameUnits.refl s).leaves

theorem execGuardStateNotice_leavesUnits (s : State) : Answers (SameUnits s) (execGuardStateNotice s) := by
  unfold execGuardStateNotice
  split
  · exact ((s.takeNotice_sameUnits _).trans (State.guardNotice_sameUnits ..)).leaves
  · exact (SameUnits.refl s).leaves

theorem execDropNotice_leavesUnits (s : State) : Answers (SameUnits s) (execDropNotice s) := by
  unfold execDropNotice
  split
  · exact (s.takeNotice_sameUnits _).leaves
  · exact (SameUnits.refl s).leaves

/-! ### The panel bus -/

theorem State.dropRun_sameUnits (s : State) (r : Run) (code : FaultCode) : SameUnits s (s.dropRun r code) :=
  (s.closeRun_sameUnits r).trans (.of_eq rfl rfl rfl rfl)

theorem execGrant_leavesUnits (s : State) : Answers (SameUnits s) (execGrant s) := by
  unfold execGrant
  split
  · split <;> exact SameUnits.leaves (.of_eq rfl rfl rfl rfl)
  · exact (SameUnits.refl s).leaves

theorem execTurnaroundDone_leavesUnits (s : State) : Answers (SameUnits s) (execTurnaroundDone s) := by
  unfold execTurnaroundDone
  split <;> exact SameUnits.leaves (.of_eq rfl rfl rfl rfl)

theorem execRetryDone_leavesUnits (s : State) : Answers (SameUnits s) (execRetryDone s) := by
  unfold execRetryDone
  split <;> exact SameUnits.leaves (.of_eq rfl rfl rfl rfl)

theorem execWindowAccepted_leavesUnits (s : State) : Answers (SameUnits s) (execWindowAccepted s) := by
  unfold execWindowAccepted
  split <;> exact SameUnits.leaves (.of_eq rfl rfl rfl rfl)

theorem execReject_leavesUnits (s : State) : Answers (SameUnits s) (execReject s) := by
  unfold execReject State.rejectRun
  split
  · split
    · dsimp only
      split
      · exact SameUnits.leaves (.of_eq rfl rfl rfl rfl)
      · exact SameUnits.leaves (.after (State.dropRun_sameUnits ..) (.of_eq rfl rfl rfl rfl))
    · exact (SameUnits.refl s).leaves
  · exact (SameUnits.refl s).leaves

theorem execHoldLimit_leavesUnits (pairsDone : Nat) (s : State) : Answers (SameUnits s) (execHoldLimit pairsDone s) := by
  unfold execHoldLimit
  dsimp only
  split
  · split
    · exact SameUnits.leaves (.after (State.dropRun_sameUnits ..) (.of_eq rfl rfl rfl rfl))
    · exact (SameUnits.refl s).leaves
  · split
    · exact SameUnits.leaves (.after (State.dropRun_sameUnits ..) (.of_eq rfl rfl rfl rfl))
    · exact (SameUnits.refl s).leaves
  · exact (SameUnits.refl s).leaves

theorem execRunFinished_leavesUnits (s : State) : Answers (SameUnits s) (execRunFinished s) := by
  unfold execRunFinished
  split
  · exact SameUnits.leaves (.after (State.closeRun_sameUnits ..) (.of_eq rfl rfl rfl rfl))
  · exact (SameUnits.refl s).leaves

/-! ### The commands, one by one -/

/-- The commands that write the posture unit, the gains, the side bus or the loader. -/
def writesUnits : Instr → Bool
  | .reset | .softReset | .faceSet | .angleSet | .angleCal | .gainLoad | .gainPoints | .imageReload
  | .sampleTimerExpiry | .busStartSeen | .busStopSeen | .busIdleTimeout | .busLineLow | .transactionStart
  | .arbitrationLost | .sensorReadComplete .. | .nvmReadComplete .. | .nackAbort | .stretchTimeout
  | .totalTimeout .. | .frameSetUp => true
  | _ => false

/-- Every other command leaves these units as they are. -/
theorem exec_leavesUnits {c : Instr} (h : writesUnits c = false) (s : State) : Answers (SameUnits s) (exec c s) := by
  cases c with
  | reset | softReset | faceSet | angleSet | angleCal | gainLoad | gainPoints | imageReload | sampleTimerExpiry
  | busStartSeen | busStopSeen | busIdleTimeout | busLineLow | transactionStart | arbitrationLost
  | sensorReadComplete | nvmReadComplete | nackAbort | stretchTimeout | totalTimeout | frameSetUp => cases h
  | ctrl first code count operands => exact execCtrl_leavesUnits first code count operands s
  | unknownCommand => exact execUnknownCommand_leavesUnits s
  | slotClear => exact s.carryOut_leavesUnits _ _ _ _ fun _ => slotClearAction_sameUnits _ s
  | slotZones => exact s.carryOut_leavesUnits _ _ _ _ fun _ => slotZonesAction_sameUnits _ s
  | entryPut => exact s.carryOut_leavesUnits _ _ _ _ fun _ => entryPutAction_sameUnits _ s
  | entryDrop => exact s.carryOut_leavesUnits _ _ _ _ fun _ => entryDropAction_sameUnits _ s
  | slotCheck => exact s.carryOut_leavesUnits _ _ _ _ fun _ => slotCheckAction_sameUnits _ s
  | slotRead => exact s.carryOut_leavesUnits _ _ _ _ fun _ => slotReadAction_sameUnits _ s
  | mapSet => exact s.carryOut_leavesUnits _ _ _ _ fun _ => mapSetAction_sameUnits _ s
  | profileSet => exact s.carryOut_leavesUnits _ _ _ _ fun _ => profileSetAction_sameUnits _ s
  | emitSet => exact s.carryOut_leavesUnits _ _ _ _ fun _ => emitSetAction_sameUnits _ s
  | emitPeriod => exact s.carryOut_leavesUnits _ _ _ _ fun _ => emitPeriodAction_sameUnits _ s
  | emitFade => exact s.carryOut_leavesUnits _ _ _ _ fun _ => emitFadeAction_sameUnits _ s
  | guardSet => exact s.carryOut_leavesUnits _ _ _ _ fun _ => guardSetAction_sameUnits _ s
  | reportRead => exact s.carryOut_leavesUnits _ _ _ _ fun _ => reportReadAction_sameUnits _ s
  | attnSet => exact s.carryOut_leavesUnits _ _ _ _ fun _ => attnSetAction_sameUnits _ s
  | statusRead => exact s.carryOut_leavesUnits _ _ _ _ fun _ => .refl s
  | faultClear => exact s.carryOut_leavesUnits _ _ _ _ fun _ => .of_eq rfl rfl rfl rfl
  | fopen frame width height => exact execFopen_leavesUnits frame width height s
  | line row payload => exact execLine_leavesUnits row payload s
  | fclose linesSent => exact execFclose_leavesUnits linesSent s
  | lineItem => exact execLineItem_leavesUnits s
  | waitingRunPlaced => exact execWaitingRunPlaced_leavesUnits s
  | frameEnd => exact execFrameEnd_leavesUnits s
  | fillSweepRun => exact execFillSweepRun_leavesUnits s
  | postureNotice => exact execPostureNotice_leavesUnits s
  | mapSetNotice => exact execMapSetNotice_leavesUnits s
  | guardStateNotice => exact execGuardStateNotice_leavesUnits s
  | dropNotice => exact execDropNotice_leavesUnits s
  | grant => exact execGrant_leavesUnits s
  | turnaroundDone => exact execTurnaroundDone_leavesUnits s
  | windowAccepted => exact execWindowAccepted_leavesUnits s
  | reject => exact execReject_leavesUnits s
  | retryDone => exact execRetryDone_leavesUnits s
  | holdLimit pairsDone => exact execHoldLimit_leavesUnits pairsDone s
  | runFinished => exact execRunFinished_leavesUnits s
  | estopAsserted => exact execEstopAsserted_leavesUnits s
  | guardTimerExpiry => exact execGuardTimerExpiry_leavesUnits s
  | otherPacket | periodEnd | estopReleased | tick | attnPulseEnd =>
    exact SameUnits.leaves (.of_eq rfl rfl rfl rfl)

end Sys2Proof.Machine
end

section
/-! The walk through the image: what a completed NVM read can lead to, said once (R181, R182, R185). -/

namespace Sys2Proof.Machine

theorem Loader.countSection_running (l : Loader) (ok : Bool) : (l.countSection ok).running = l.running := by
  unfold Loader.countSection
  split <;> rfl

section

variable {P Q : State → Prop}
  (registers : ∀ (s : State) (l : Loader) (i : Nat), P s → l.running = s.loader.running → P (s.withLoader l i))
  (applied : ∀ (s : State) (kind : Byte) (body : List Byte), P s → P (s.applySection kind body).2)
  (ended : ∀ (s : State) (outcome : LoadOutcome) (address : Nat), P s → Q (s.endRun outcome address))
  (header : ∀ (s : State) (address : Nat), P s → s.loader.phase = .header → Q (s.request (.nvm address 4)))
  (body : ∀ (s : State) (kind : Byte) (length : Nat) (got : List Byte) (address count : Nat), P s →
    s.loader.phase = .body kind length got → Q (s.request (.nvm address count)))

include registers ended

/-- A new section starts with the read of its header, or the run ends beyond the address limit. -/
theorem State.beginSection_induction (header : ∀ (s : State) (address : Nat), P s → s.loader.phase = .header →
    Q (s.request (.nvm address 4))) {s : State} (h : P s) (address : Nat) : Q (s.beginSection address) := by
  unfold State.beginSection
  dsimp only
  split
  · exact ended _ _ _ (registers s _ _ h rfl)
  · exact header _ _ (registers s _ _ h rfl) rfl

include applied header

/-- A section is applied and counted, and the next one starts (R182). -/
theorem State.finishSection_induction {s : State} (h : P s) (kind : Byte) (bytes : List Byte) (next : Nat) :
    Q (s.finishSection kind bytes next) :=
  State.beginSection_induction registers ended header
    (registers _ _ _ (applied s kind bytes h) (Loader.countSection_running ..)) next

include body

/-- A section header ends the run, or leads to the next section or to the first read of a body (R181). -/
theorem State.takeHeader_induction {s : State} (h : P s) (marker kind hi lo : Byte) (next : Nat) :
    Q (s.takeHeader marker kind hi lo next) := by
  unfold State.takeHeader
  dsimp only
  split_ifs
  · exact ended _ _ _ h
  · exact ended _ _ _ h
  · exact ended _ _ _ h
  · exact ended _ _ _ h
  · exact State.beginSection_induction registers ended header h _
  · exact State.finishSection_induction registers applied ended header h ..
  · exact body _ _ _ _ _ _ (registers s _ _ h rfl) rfl

/-- What the loader's registers and the application of sections keep, and what its ends and its next reads lead to, a
completed read leads to. Only bytes that are not what the loader asked for leave the state as it is. -/
theorem State.loaderTakes_induction {s : State} (h : P s) {bytes : List Byte}
    (unasked : s.loader.phase = .idle ∨ (s.loader.phase = .marker ∧ bytes.length ≠ 1)
      ∨ (s.loader.phase = .header ∧ bytes.length ≠ 4) → Q s) : Q (s.loaderTakes bytes) := by
  have moved : ∀ address, P (s.moveCursor address) := fun _ => registers s _ _ h rfl
  cases phase : s.loader.phase with
  | idle =>
    rw [show s.loaderTakes bytes = s by simp [State.loaderTakes, phase]]
    exact unasked (.inl phase)
  | marker =>
    cases bytes with
    | nil =>
      rw [show s.loaderTakes [] = s by simp [State.loaderTakes, phase]]
      exact unasked (.inr (.inl ⟨phase, by decide⟩))
    | cons b more =>
      simp only [State.loaderTakes, phase]
      split
      · exact State.beginSection_induction registers ended header h _
      · exact ended _ _ _ h
  | header =>
    by_cases asked : ∃ marker kind hi lo, bytes = [marker, kind, hi, lo]
    · obtain ⟨marker, kind, hi, lo, rfl⟩ := asked
      simp only [State.loaderTakes, phase]
      exact State.takeHeader_induction registers applied ended header body (moved _) ..
    · have short : bytes.length ≠ 4 := fun hlen => asked (by
        match bytes, hlen with
        | [marker, kind, hi, lo], _ => exact ⟨marker, kind, hi, lo, rfl⟩)
      have stays : s.loaderTakes bytes = s := by
        unfold State.loaderTakes
        rw [phase]
        split
        · next heq => cases heq
        · exact absurd ⟨_, _, _, _, rfl⟩ asked
        · next heq => cases heq
        · rfl
      rw [stays]
      exact unasked (.inr (.inr ⟨phase, short⟩))
  | body kind length got =>
    simp only [State.loaderTakes, phase]
    split
    · exact body _ _ _ _ _ _ (registers _ _ _ (moved _) rfl) rfl
    · exact State.finishSection_induction registers applied ended header (moved _) ..

end

end Sys2Proof.Machine
end

section
/-! The angle chain: the filter moves between its old value and the target, and every value it gives lies in its range
(R28 to R33, R44). -/

namespace Sys2Proof.Machine

open Sys2Proof.Safety

/-! ### The filter (R32, R33) -/

/-- A distance shifted right goes between 0 and the distance; from a negative one the shift never reaches 0. -/
theorem shift_between (d : Int) (k : Nat) :
    (0 ≤ d ∧ 0 ≤ d / 2 ^ k ∧ d / 2 ^ k ≤ d) ∨ (d < 0 ∧ d ≤ d / 2 ^ k ∧ d / 2 ^ k < 0) := by
  have one : (1 : Int) ≤ 2 ^ k := one_le_pow₀ (by decide)
  have pos : (0 : Int) < 2 ^ k := one
  rcases Int.lt_or_le d 0 with h | h
  · exact .inr ⟨h, (Int.le_ediv_iff_mul_le pos).mpr (by nlinarith), Int.ediv_neg_of_neg_of_pos h pos⟩
  · exact .inl ⟨h, Int.ediv_nonneg h pos.le, Int.ediv_le_self _ h⟩

/-- The filter's new value, before it is read as a natural number: it is never negative (R32). -/
theorem filterStep_some (k y a : Nat) :
    ((filterStep k (some y) a : Nat) : Int) = (y : Int) + ((16 * a : Nat) - (y : Int)) / 2 ^ k := by
  simp only [filterStep]
  have := shift_between ((16 * a : Nat) - (y : Int)) k
  omega

theorem filterStep_between (k y a : Nat) :
    min y (16 * a) ≤ filterStep k (some y) a ∧ filterStep k (some y) a ≤ max y (16 * a) := by
  have := filterStep_some k y a
  have := shift_between ((16 * a : Nat) - (y : Int)) k
  omega

theorem filterStep_zero (y a : Nat) : filterStep 0 (some y) a = 16 * a := by
  have := filterStep_some 0 y a
  simp only [pow_zero, Int.ediv_one] at this
  omega

theorem filterStep_lt_of_target_lt {k y a : Nat} (h : 16 * a < y) : filterStep k (some y) a < y := by
  have := filterStep_some k y a
  have := shift_between ((16 * a : Nat) - (y : Int)) k
  omega

/-- From below the filter rests exactly where the distance left is less than the smoothing (R32). -/
theorem filterStep_eq_self_iff {k y a : Nat} (h : y < 16 * a) :
    filterStep k (some y) a = y ↔ 16 * a - y < 2 ^ k := by
  have step := filterStep_some k y a
  have between := shift_between ((16 * a : Nat) - (y : Int)) k
  have rests : (1 : Int) ≤ ((16 * a : Nat) - (y : Int)) / 2 ^ k ↔ (1 : Int) * 2 ^ k ≤ (16 * a : Nat) - (y : Int) :=
    Int.le_ediv_iff_mul_le (by positivity)
  have cast : ((2 ^ k : Nat) : Int) = 2 ^ k := by norm_cast
  rw [← cast, one_mul] at rests
  rw [← cast] at step between
  generalize 2 ^ k = p at *
  omega

theorem filteredAngle_nearest (y : Nat) : 16 * filteredAngle y ≤ y + 8 ∧ y + 8 < 16 * filteredAngle y + 16 := by
  simp only [filteredAngle]
  omega

theorem filteredAngle_le {y : Nat} (h : y ≤ 32768) : filteredAngle y ≤ 2048 := by
  simp only [filteredAngle]
  omega

theorem filteredAngle_target (k a : Nat) : filteredAngle (filterStep k none a) = a := by
  simp only [filteredAngle, filterStep]
  omega

/-- Settles O26: by the sign of the distance to the target. -/
theorem filterMovesBetween : Obligations.FilterMovesBetween := by
  refine ⟨fun k y a => ?_, filteredAngle_nearest, fun y => filteredAngle_le, filteredAngle_target⟩
  obtain ⟨low, high⟩ := filterStep_between k y a
  exact ⟨low, high, fun hk => hk ▸ filterStep_zero y a, filterStep_lt_of_target_lt, filterStep_eq_self_iff⟩

/-! ### Ranges (R31, R32, R44, R111) -/

theorem openingAngle_le (c : Nat) : openingAngle c ≤ 2048 := by
  unfold openingAngle
  split_ifs <;> omega

theorem filterStep_le {k a : Nat} {old : Option Nat} (hold : ∀ y, old = some y → y ≤ 32768) (ha : a ≤ 2048) :
    filterStep k old a ≤ 32768 := by
  cases old with
  | none => simp only [filterStep]; omega
  | some y =>
    have := hold y rfl
    have := filterStep_between k y a
    omega

theorem blendWeight_le (f foldPt flatPt : Nat) : blendWeight f foldPt flatPt ≤ 256 := by
  unfold blendWeight
  split_ifs with hfold hflat
  · exact le_rfl
  · exact Nat.zero_le _
  · exact Nat.le_of_lt_succ (Nat.div_lt_of_lt_mul (by omega))

/-- A blended gain lies between the two it blends (R111). -/
theorem blendGain_le {flat fold w : Nat} (hflat : flat ≤ 4095) (hfold : fold ≤ 4095) (hw : w ≤ 256) :
    blendGain flat fold w ≤ 4095 := by
  unfold blendGain
  have most : ((fold : Int) - flat) * w ≤ max 0 (((fold : Int) - flat) * 256) := by
    rcases Int.le_total ((fold : Int) - flat) 0 with h | h
    · exact (mul_nonpos_of_nonpos_of_nonneg h (by omega)).trans (le_max_left ..)
    · exact (mul_le_mul_of_nonneg_left (by omega) h).trans (le_max_right ..)
  omega

end Sys2Proof.Machine
end

section
/-! A good sample, stage by stage: what each stage does to the posture unit, and what a sample leaves as it was (R28 to
R43). -/

namespace Sys2Proof.Machine

open Sys2Proof.Safety

/-! ### What a sample leaves -/

/-- Everything but the posture unit, the report queue and the notices is the same. -/
structure SampleFrame (s t : State) : Prop where
  store : t.store = s.store
  bus : t.bus = s.bus
  intake : t.intake = s.intake
  mapper : t.mapper = { s.mapper with notices := t.mapper.notices }
  gain : t.gain = s.gain
  engine : t.engine = s.engine
  emission : t.emission = s.emission
  guard : t.guard = s.guard
  control : t.control = s.control
  loader : t.loader = s.loader
  outside : t.outside = s.outside
  freeIndex : t.freeIndex = s.freeIndex
  pending : t.pending = s.pending

/-- A change of the posture unit, the report queue and the notices. -/
theorem SampleFrame.change (s : State) (p : PostureUnit) (q : Reports) (ns : List Notice) :
    SampleFrame s { s with posture := p, reports := q, mapper := { s.mapper with notices := ns } } :=
  ⟨rfl, rfl, rfl, rfl, rfl, rfl, rfl, rfl, rfl, rfl, rfl, rfl, rfl⟩

theorem SampleFrame.trans {s t u : State} (h : SampleFrame s t) (h' : SampleFrame t u) : SampleFrame s u :=
  ⟨h'.store.trans h.store, h'.bus.trans h.bus, h'.intake.trans h.intake,
    h'.mapper.trans (by rw [h.mapper]), h'.gain.trans h.gain, h'.engine.trans h.engine,
    h'.emission.trans h.emission, h'.guard.trans h.guard, h'.control.trans h.control, h'.loader.trans h.loader,
    h'.outside.trans h.outside, h'.freeIndex.trans h.freeIndex, h'.pending.trans h.pending⟩

/-! ### Stages 1 to 6 (R29, R43) -/

/-- The filter state after a sample. -/
def PostureUnit.nextY (p : PostureUnit) (raw : Nat) : Nat :=
  filterStep p.config.k (if p.sensorLost = true then none else p.y) (openingAngle (correctedCode raw p.offset))

/-- The posture unit after stages 1 to 6 and with the miss count cleared. -/
def PostureUnit.sampled (p : PostureUnit) (raw foldPt flatPt : Nat) : PostureUnit :=
  { p with
    y := some (p.nextY raw), f := filteredAngle (p.nextY raw)
    w := blendWeight (filteredAngle (p.nextY raw)) foldPt flatPt
    missCount := 0, sensorLost := false, outstanding := false }

/-- The report queue after stage 6: SENSOR_BACK is offered when the sensor was lost (R43). -/
def State.reportsAfterRecovery (s : State) (f : Nat) : Reports :=
  if s.posture.sensorLost = true then s.reports.offer s.guard.tick (.fault .sensorBack .front 0 f) else s.reports

/-- The part after stages 1 to 6. -/
def State.sampled (s : State) (raw : Nat) : State :=
  { s with
    posture := s.posture.sampled raw s.gain.foldPt s.gain.flatPt
    reports := s.reportsAfterRecovery (filteredAngle (s.posture.nextY raw)) }

/-- A good sample is the classification of what stages 1 to 6 leave (R29). -/
theorem State.goodSample_eq (s : State) (first second : Byte) :
    s.goodSample first second = (s.sampled (rawCode first second)).classifySample := by
  unfold State.goodSample State.recoverSensor State.sampled State.reportsAfterRecovery
  cases hlost : s.posture.sensorLost <;>
    simp [State.angleChain, State.offer, PostureUnit.sampled, PostureUnit.nextY, hlost]

/-! ### Stage 8 (R34 to R38) -/

/-- The dwell count that a class brings about when it is not that of the posture (R35). -/
def PostureUnit.nextCount (p : PostureUnit) (c : PostureClass) : Nat :=
  if p.candidate = some c then p.dwellCount + 1 else 1

/-- The class of the sample by the row of the current posture (R34). -/
def PostureUnit.sampleClass (p : PostureUnit) : PostureClass := classify p.config.thresholds p.posture p.f

section

variable {s : State}

/-- From UNSET the class is adopted at once (R36). -/
theorem State.classifySample_unset (h : s.posture.posture = .unset) :
    s.classifySample = s.adopt (s.posture.sampleClass.posture s.posture.facing) true false := if_pos h

/-- The class of the current posture clears the candidate (R35). -/
theorem State.classifySample_sameClass (h : s.posture.posture.class? = some s.posture.sampleClass) :
    s.classifySample = { s with posture := { s.posture with candidate := none, dwellCount := 0 } } := by
  have set : s.posture.posture ≠ .unset := fun h0 => by rw [h0] at h; cases h
  exact (if_neg set).trans (if_pos h)

variable (set : s.posture.posture ≠ .unset) (other : s.posture.posture.class? ≠ some s.posture.sampleClass)

include set other

/-- Another class is adopted when it has been seen D times (R35, R38). -/
theorem State.classifySample_adopted (reached : s.posture.config.dwell ≤ s.posture.nextCount s.posture.sampleClass) :
    s.classifySample = s.adopt (s.posture.sampleClass.posture s.posture.facing) false false :=
  (if_neg set).trans ((if_neg other).trans (if_pos reached))

/-- Another class counts until then (R35). -/
theorem State.classifySample_counted (below : s.posture.nextCount s.posture.sampleClass < s.posture.config.dwell) :
    s.classifySample = { s with posture := { s.posture with
      candidate := some s.posture.sampleClass, dwellCount := s.posture.nextCount s.posture.sampleClass } } :=
  (if_neg set).trans ((if_neg other).trans (if_neg (Nat.not_le.mpr below)))

end

/-- Everything that the classification of a sample can do (R34 to R38). -/
theorem State.classifySample_cases (s : State) :
    (∃ initial, s.classifySample = s.adopt (s.posture.sampleClass.posture s.posture.facing) initial false)
      ∨ s.classifySample = { s with posture := { s.posture with candidate := none, dwellCount := 0 } }
      ∨ (s.posture.nextCount s.posture.sampleClass < s.posture.config.dwell
        ∧ s.classifySample = { s with posture := { s.posture with
            candidate := some s.posture.sampleClass
            dwellCount := s.posture.nextCount s.posture.sampleClass } }) := by
  by_cases set : s.posture.posture = .unset
  · exact .inl ⟨true, State.classifySample_unset set⟩
  by_cases other : s.posture.posture.class? = some s.posture.sampleClass
  · exact .inr (.inl (State.classifySample_sameClass other))
  rcases Nat.lt_or_ge (s.posture.nextCount s.posture.sampleClass) s.posture.config.dwell with below | reached
  · exact .inr (.inr ⟨below, State.classifySample_counted set other below⟩)
  · exact .inl ⟨false, State.classifySample_adopted set other reached⟩

theorem State.adopt_frame (s : State) (p : Posture) (initial face : Bool) : SampleFrame s (s.adopt p initial face) :=
  .change ..

theorem State.classifySample_frame (s : State) : SampleFrame s s.classifySample := by
  obtain ⟨initial, heq⟩ | heq | ⟨-, heq⟩ := s.classifySample_cases <;> rw [heq]
  · exact s.adopt_frame ..
  · exact .change ..
  · exact .change ..

/-- The classification changes nothing of the posture unit but the posture and the dwell. -/
theorem State.classifySample_posture (s : State) :
    s.classifySample.posture = { s.posture with
      posture := s.classifySample.posture.posture
      candidate := s.classifySample.posture.candidate
      dwellCount := s.classifySample.posture.dwellCount } := by
  obtain ⟨initial, heq⟩ | heq | ⟨-, heq⟩ := s.classifySample_cases
  · rw [heq]; rfl
  · rw [heq]
  · rw [heq]

theorem State.goodSample_frame (s : State) (first second : Byte) : SampleFrame s (s.goodSample first second) := by
  have stages : SampleFrame s (s.sampled (rawCode first second)) := .change ..
  rw [s.goodSample_eq]
  exact stages.trans (State.classifySample_frame _)

/-! ### Failed samples (R41) -/

/-- A failed sample writes the posture unit and the report queue alone (R41). -/
theorem State.failedSample_eq (s : State) :
    s.failedSample =
      { s with
        posture := { s.posture with
          outstanding := false, missCount := min (s.posture.missCount + 1) 8
          sensorLost := s.posture.sensorLost || s.posture.missCount == 7 }
        reports := if s.posture.missCount = 7 ∧ s.posture.sensorLost = false then
            s.reports.offer s.guard.tick (.fault .sensorLost .front 0 s.posture.f) else s.reports } := by
  unfold State.failedSample State.offer
  cases s.posture.sensorLost <;> by_cases h : s.posture.missCount = 7 <;> simp [h]

theorem State.failedSample_frame (s : State) : SampleFrame s s.failedSample := by
  rw [s.failedSample_eq]
  exact .change ..

end Sys2Proof.Machine
end

section
/-! Every step keeps the ranges of the posture unit and of the gains (R32 to R47, R107 to R117). -/

namespace Sys2Proof.Machine

open Sys2Proof.Safety

/-! ### The ranges, unit by unit -/

/-- The ranges of what ANGLE_SET stores (R27, R32, R34, R35). -/
structure ConfigGood (c : AngleConfig) : Prop where
  rate : c.rate ≤ 3
  shift : c.k ≤ 5
  thresholds : c.thresholds.closedEnter < c.thresholds.closedExit ∧ c.thresholds.closedExit ≤ c.thresholds.openExit
    ∧ c.thresholds.openExit < c.thresholds.openEnter ∧ c.thresholds.openEnter ≤ 2048
  dwell : 1 ≤ c.dwell ∧ c.dwell ≤ 255

/-- The ranges of the posture unit: what `AngleLaw` says of it. -/
structure PostureGood (p : PostureUnit) : Prop where
  config : ConfigGood p.config
  offset : -2048 ≤ p.offset ∧ p.offset ≤ 2047
  filter : ∀ y, p.y = some y → y ≤ 32768
  angle : p.f ≤ 2048
  weight : p.w ≤ 256
  count : p.dwellCount < p.config.dwell
  candidate : p.candidate = none ↔ p.dwellCount = 0
  misses : p.missCount ≤ 8

/-- The gain unit's gains and points in their ranges (R107, R110). -/
structure GainsGood (g : GainUnit) : Prop where
  gains : GainLaw g
  points : g.foldPt < g.flatPt ∧ g.flatPt ≤ 2048

theorem sensingLaw_iff (s : State) : SensingLaw s ↔ PostureGood s.posture ∧ GainsGood s.gain := by
  constructor
  · rintro ⟨a, g⟩
    exact ⟨⟨⟨a.rate, a.shift, a.thresholds, a.dwell⟩, a.offset, a.filter, a.angle, a.weight, a.count, a.candidate,
      a.misses⟩, g, a.points⟩
  · rintro ⟨p, g⟩
    exact ⟨⟨p.config.rate, p.config.shift, p.config.thresholds, p.config.dwell, p.offset, p.filter, p.angle, p.weight,
      p.count, p.candidate, p.misses, g.points⟩, g.gains⟩

theorem SameGains.keeps {g g' : GainUnit} (same : SameGains g g') (h : GainsGood g) : GainsGood g' where
  gains :=
    { flat := by rw [same.flat]; exact h.gains.flat
      fold := by rw [same.fold]; exact h.gains.fold
      buffers := fun n => by rw [same.buffers n]; exact h.gains.buffers n }
  points := by rw [same.foldPt, same.flatPt]; exact h.points

theorem sensingLaw_of_same {s t : State} (law : SensingLaw s) (posture : t.posture = s.posture)
    (gains : SameGains s.gain t.gain) : SensingLaw t := by
  rw [sensingLaw_iff] at *
  rw [posture]
  exact ⟨law.1, gains.keeps law.2⟩

theorem SameUnits.keepsSensing {s t : State} (same : SameUnits s t) (law : SensingLaw s) : SensingLaw t :=
  sensingLaw_of_same law same.posture same.gains

theorem sensingLaw_of_posture {s t : State} (law : SensingLaw s) (good : PostureGood t.posture)
    (gain : t.gain = s.gain) : SensingLaw t := by
  rw [sensingLaw_iff] at *
  rw [gain]
  exact ⟨good, law.2⟩

theorem sensingLaw_of_gain {s t : State} (law : SensingLaw s) (posture : t.posture = s.posture)
    (good : GainsGood t.gain) : SensingLaw t := by
  rw [sensingLaw_iff] at *
  rw [posture]
  exact ⟨law.1, good⟩

/-! ### The posture unit (R35 to R48) -/

section

variable {p : PostureUnit}

/-- The timer, the posture, the facing and the flags of a read have no part in the ranges. -/
theorem PostureGood.flags (h : PostureGood p) (timer : Nat) (posture : Posture) (facing : Facing)
    (lost outstanding : Bool) :
    PostureGood { p with
      sampleTimer := timer, posture := posture, facing := facing, sensorLost := lost, outstanding := outstanding } :=
  ⟨h.config, h.offset, h.filter, h.angle, h.weight, h.count, h.candidate, h.misses⟩

theorem PostureGood.cleared (h : PostureGood p) (posture : Posture) :
    PostureGood { p with posture := posture, candidate := none, dwellCount := 0 } :=
  ⟨h.config, h.offset, h.filter, h.angle, h.weight, h.config.dwell.1, iff_of_true rfl rfl, h.misses⟩

/-- A candidate that has not been seen D times (R35). -/
theorem PostureGood.counted (h : PostureGood p) (c : PostureClass) {n : Nat} (pos : n ≠ 0)
    (below : n < p.config.dwell) : PostureGood { p with candidate := some c, dwellCount := n } :=
  ⟨h.config, h.offset, h.filter, h.angle, h.weight, below, iff_of_false (Option.some_ne_none c) pos, h.misses⟩

theorem PostureGood.sampled (h : PostureGood p) (raw foldPt flatPt : Nat) :
    PostureGood (p.sampled raw foldPt flatPt) := by
  have filter : p.nextY raw ≤ 32768 := by
    refine filterStep_le (fun y hy => ?_) (openingAngle_le _)
    split at hy
    · cases hy
    · exact h.filter y hy
  exact ⟨h.config, h.offset, fun y hy => Option.some.inj hy ▸ filter, filteredAngle_le filter, blendWeight_le ..,
    h.count, h.candidate, Nat.zero_le _⟩

theorem PostureGood.missed (h : PostureGood p) (lost : Bool) :
    PostureGood { p with outstanding := false, missCount := min (p.missCount + 1) 8, sensorLost := lost } :=
  ⟨h.config, h.offset, h.filter, h.angle, h.weight, h.count, h.candidate, Nat.min_le_right ..⟩

theorem PostureGood.restart (h : PostureGood p) : PostureGood p.restart :=
  ⟨h.config, h.offset, nofun, h.angle, h.weight, h.config.dwell.1, iff_of_true rfl rfl, h.misses⟩

theorem PostureGood.configure (h : PostureGood p) {c : AngleConfig} (good : ConfigGood c) :
    PostureGood (p.configure c) :=
  ⟨good, h.offset, h.filter, h.angle, h.weight, good.dwell.1, iff_of_true rfl rfl, h.misses⟩

theorem PostureGood.calibrate (h : PostureGood p) {offset : Int} (range : -2048 ≤ offset ∧ offset ≤ 2047) :
    PostureGood { p with offset := offset } :=
  ⟨h.config, range, h.filter, h.angle, h.weight, h.count, h.candidate, h.misses⟩

end

/-- A set of angle values that passes its tests lies in the ranges (R45). -/
theorem parseAngleConfig_good {operands : List Byte} {c : AngleConfig} (h : parseAngleConfig operands = some c) :
    ConfigGood c := by
  unfold parseAngleConfig at h
  split at h
  · dsimp only at h
    split at h
    · next dwell _ _ passes =>
      obtain ⟨rate, -, -, -, top, enter, middle, leave, -⟩ := passes
      cases h
      exact ⟨rate, Nat.min_le_right .., ⟨enter, middle, leave, top⟩, Nat.le_max_right ..,
        max_le (by have := dwell.isLt; omega) (by decide)⟩
    · cases h
  · cases h

theorem parseOffset_range {hi lo : Byte} {offset : Int} (h : parseOffset hi lo = some offset) :
    -2048 ≤ offset ∧ offset ≤ 2047 := by
  unfold parseOffset at h
  split at h
  · next range => cases h; exact range
  · cases h

/-! ### Samples -/

theorem State.classifySample_postureGood {s : State} (h : PostureGood s.posture) :
    PostureGood s.classifySample.posture := by
  obtain ⟨initial, heq⟩ | heq | ⟨below, heq⟩ := s.classifySample_cases <;> rw [heq]
  · exact h.cleared _
  · exact h.cleared _
  · refine h.counted _ ?_ below
    unfold PostureUnit.nextCount
    split <;> omega

theorem State.goodSample_keepsSensing {s : State} (law : SensingLaw s) (first second : Byte) :
    SensingLaw (s.goodSample first second) := by
  have good := ((sensingLaw_iff s).mp law).1
  refine sensingLaw_of_posture law ?_ (s.goodSample_frame first second).gain
  rw [s.goodSample_eq]
  exact State.classifySample_postureGood (good.sampled ..)

theorem State.failedSample_keepsSensing {s : State} (law : SensingLaw s) : SensingLaw s.failedSample := by
  refine sensingLaw_of_posture law ?_ s.failedSample_frame.gain
  rw [s.failedSample_eq]
  exact ((sensingLaw_iff s).mp law).1.missed _

theorem State.endRun_keepsSensing {s : State} (law : SensingLaw s) (outcome : LoadOutcome) (address : Nat) :
    SensingLaw (s.endRun outcome address) :=
  sensingLaw_of_posture law ((sensingLaw_iff s).mp law).1.restart rfl

theorem State.abort_keepsSensing {s : State} (law : SensingLaw s) (r : Request) (after : BusAfter) :
    SensingLaw (s.abort r after) := by
  have ended : SensingLaw (s.endTransaction [] after) := sensingLaw_of_same law rfl (.refl _)
  cases r with
  | sensor device register => exact State.failedSample_keepsSensing ended
  | nvm address count =>
    show SensingLaw (State.loaderFails _)
    unfold State.loaderFails
    split
    · exact State.endRun_keepsSensing ended ..
    · exact ended

/-! ### Gains (R107 to R117) -/

/-- Entries written in their range leave a table in its range (R108). -/
theorem writeGains_le {table : Vector Nat 72} {first : Nat} {values : List Nat} (htable : ∀ c : Fin 72, table[c] ≤ 4095)
    (hvalues : ∀ v ∈ values, v ≤ 4095) (c : Fin 72) : (writeGains table first values)[c] ≤ 4095 := by
  simp only [writeGains, Fin.getElem_fin, Vector.getElem_ofFn]
  split
  · next inside =>
    rw [List.getD_eq_getElem _ _ (by omega)]
    exact hvalues _ (List.getElem_mem _)
  · exact htable c

/-- Gains read from a section whose values lie in their range (R117). -/
theorem gainsFrom_le {values : List Nat} {start : Nat} (hvalues : ∀ v ∈ values.take 144, v ≤ 4095) (hstart : start ≤ 72)
    (c : Fin 72) : (gainsFrom values start)[c] ≤ 4095 := by
  simp only [gainsFrom, Fin.getElem_fin, Vector.getElem_ofFn, List.getD_eq_getElem?_getD]
  cases h : values[start + c.val]? with
  | none => simp
  | some v =>
    refine hvalues v (List.mem_of_getElem? (i := start + c.val) ?_)
    rw [List.getElem?_take_of_lt (by omega)]
    exact h

/-- The snapshot of a frame keeps the gains in their range (R111, R112). -/
theorem GainsGood.takeSnapshot {g : GainUnit} (h : GainsGood g) {w : Nat} (hw : w ≤ 256) :
    GainsGood (g.takeSnapshot w) := by
  unfold GainUnit.takeSnapshot
  dsimp only
  split
  · refine ⟨⟨h.gains.flat, h.gains.fold, fun n c => ?_⟩, h.points⟩
    show (g.buffers.set (otherBuffer g.current) ⟨g.blend w, 0⟩)[n].gains[c] ≤ 4095
    rw [getElem_set_fin]
    split
    · simp only [GainUnit.blend, Fin.getElem_fin, Vector.getElem_ofFn]
      exact blendGain_le (h.gains.flat c) (h.gains.fold c) hw
    · exact h.gains.buffers n c
  · exact h

theorem pointsInRange_iff (foldPt flatPt : Nat) :
    pointsInRange foldPt flatPt = true ↔ foldPt ≤ 2048 ∧ flatPt ≤ 2048 ∧ foldPt < flatPt := by
  simp [pointsInRange]

/-- New tables and points in their ranges (R108, R110, R117). -/
theorem GainsGood.setTables {g : GainUnit} (h : GainsGood g) {flat fold : Vector Nat 72} {foldPt flatPt : Nat}
    (hflat : ∀ c : Fin 72, flat[c] ≤ 4095) (hfold : ∀ c : Fin 72, fold[c] ≤ 4095)
    (points : foldPt < flatPt ∧ flatPt ≤ 2048) :
    GainsGood { g with flat := flat, fold := fold, foldPt := foldPt, flatPt := flatPt } :=
  ⟨⟨hflat, hfold, h.gains.buffers⟩, points⟩

/-! ### The image (R182) -/

/-- What a section can do to the posture unit, the side bus, the loader and the gains: nothing, an angle
configuration with its offset, or tables and points that keep the gains in their ranges. -/
def SectionUnits (s t : State) : Prop :=
  SameUnits s t
    ∨ (∃ c offset, ConfigGood c ∧ (-2048 ≤ offset ∧ offset ≤ 2047)
      ∧ t = { s with posture := { s.posture.configure c with offset := offset } })
    ∨ ∃ g, (GainsGood s.gain → GainsGood g) ∧ t = { s with gain := g }

theorem SectionUnits.keepsSensing {s t : State} (h : SectionUnits s t) (law : SensingLaw s) : SensingLaw t := by
  obtain same | ⟨c, offset, config, range, rfl⟩ | ⟨g, good, rfl⟩ := h
  · exact same.keepsSensing law
  · exact sensingLaw_of_posture law ((((sensingLaw_iff s).mp law).1.configure config).calibrate range) rfl
  · exact sensingLaw_of_gain law rfl (good ((sensingLaw_iff s).mp law).2)

theorem State.applyAngle_units {s t : State} {body : List Byte} (h : s.applyAngle body = some t) :
    SectionUnits s t := by
  unfold State.applyAngle at h
  split at h
  · next c hi lo parsed _ =>
    obtain ⟨offset, hoffset, rfl⟩ := Option.map_eq_some_iff.mp h
    exact .inr (.inl ⟨c, offset, parseAngleConfig_good parsed, parseOffset_range hoffset, rfl⟩)
  · cases h

theorem State.applyGain_units {s t : State} {body : List Byte} (h : s.applyGain body = some t) :
    SectionUnits s t := by
  unfold State.applyGain at h
  dsimp only at h
  split at h
  · next passes =>
    cases h
    have inRange : ∀ v ∈ (be16s body).take 144, v ≤ 4095 := by simpa using passes.1
    obtain ⟨-, top, order⟩ := (pointsInRange_iff ..).mp passes.2
    exact .inr (.inr ⟨_, fun good => good.setTables (gainsFrom_le inRange (by decide)) (gainsFrom_le inRange le_rfl)
      ⟨order, top⟩, rfl⟩)
  · cases h

theorem State.applyEmit_units {s t : State} {body : List Byte} (h : s.applyEmit body = some t) :
    SectionUnits s t := by
  unfold State.applyEmit at h
  split at h <;> cases h
  exact .inl (.of_eq rfl rfl rfl rfl)

theorem State.applyGuard_units {s t : State} {body : List Byte} (h : s.applyGuard body = some t) :
    SectionUnits s t := by
  unfold State.applyGuard at h
  split at h <;> cases h
  exact .inl (.of_eq rfl rfl rfl rfl)

theorem State.orKeep_units (s : State) (o : Option State) (h : ∀ t, o = some t → SectionUnits s t) :
    SectionUnits s (s.orKeep o).2 := by
  cases o with
  | none => exact .inl (.refl s)
  | some t => exact h t rfl

theorem State.applyProfile_sameUnits (s : State) (d : Driver) (c w t : Byte) :
    SameUnits s (s.applyProfile d c w t).2 := by
  unfold State.applyProfile
  split <;> exact .of_eq rfl rfl rfl rfl

theorem State.applyProfiles_sameUnits (s : State) (body : List Byte) : SameUnits s (s.applyProfiles body).2 := by
  unfold State.applyProfiles
  split
  · exact (State.applyProfile_sameUnits ..).trans
      ((State.applyProfile_sameUnits ..).trans (State.applyProfile_sameUnits ..))
  · exact .refl s

theorem State.applyLayout_sameUnits (s : State) (body : List Byte) : SameUnits s (s.applyLayout body).2 := by
  unfold State.applyLayout
  split
  · split
    · exact .refl s
    · split
      · exact .refl s
      · split <;> exact .of_eq rfl rfl rfl rfl
  · exact .refl s

theorem State.applyMapEntry_sameUnits (s : State) (p : Posture) (n : Byte) :
    SameUnits s (s.applyMapEntry p n).2 := by
  unfold State.applyMapEntry
  split
  · next ok => exact State.offerToMap_sameUnits ok
  · exact .refl s

theorem State.applyMap_sameUnits (s : State) (body : List Byte) : SameUnits s (s.applyMap body).2 := by
  unfold State.applyMap
  split
  · exact (State.applyMapEntry_sameUnits ..).trans ((State.applyMapEntry_sameUnits ..).trans
      ((State.applyMapEntry_sameUnits ..).trans (State.applyMapEntry_sameUnits ..)))
  · exact .refl s

/-- Of the sections only ANGLE and GAIN write one of these units (R182). -/
theorem State.applySection_units (s : State) (kind : Byte) (body : List Byte) :
    SectionUnits s (s.applySection kind body).2 := by
  unfold State.applySection
  split
  · split
    · exact s.orKeep_units _ fun _ => State.applyAngle_units
    · exact s.orKeep_units _ fun _ => State.applyGain_units
    · exact s.orKeep_units _ fun _ => State.applyEmit_units
    · exact s.orKeep_units _ fun _ => State.applyGuard_units
    · exact .inl (s.applyProfiles_sameUnits body)
    · exact .inl (s.applyLayout_sameUnits body)
    · exact .inl (s.applyMap_sameUnits body)
  · exact .inl (.refl s)

/-- A loader run goes on or ends: the posture unit restarts at its end, and the gains stay (R48, R181). -/
theorem State.loaderTakes_keepsSensing {s : State} (law : SensingLaw s) (bytes : List Byte) :
    SensingLaw (s.loaderTakes bytes) :=
  State.loaderTakes_induction (P := SensingLaw) (Q := SensingLaw)
    (registers := fun _ _ _ law _ => sensingLaw_of_same law rfl (.refl _))
    (applied := fun s kind body law => (s.applySection_units kind body).keepsSensing law)
    (ended := fun _ outcome address law => State.endRun_keepsSensing law outcome address)
    (header := fun _ _ law _ => sensingLaw_of_same law rfl (.refl _))
    (body := fun _ _ _ _ _ _ law _ => sensingLaw_of_same law rfl (.refl _))
    law fun _ => law

/-! ### The commands that write these units -/

theorem faceSetAction_keepsSensing {s : State} (law : SensingLaw s) (operands : List Byte) :
    SensingLaw (faceSetAction operands s).after := by
  have good := ((sensingLaw_iff s).mp law).1
  unfold faceSetAction
  split
  · split
    · exact law
    · next facing _ =>
      dsimp only
      have faced : SensingLaw { s with posture := { s.posture with facing := facing } } :=
        sensingLaw_of_posture law (good.flags _ _ facing _ _) rfl
      split
      · exact sensingLaw_of_posture faced ((good.flags _ _ facing _ _).cleared _) rfl
      · exact faced
  · exact law

theorem angleSetAction_keepsSensing {s : State} (law : SensingLaw s) (operands : List Byte) :
    SensingLaw (angleSetAction operands s).after := by
  unfold angleSetAction
  split
  · exact law
  · next parsed =>
    exact sensingLaw_of_posture law (((sensingLaw_iff s).mp law).1.configure (parseAngleConfig_good parsed)) rfl

theorem angleCalAction_keepsSensing {s : State} (law : SensingLaw s) (operands : List Byte) :
    SensingLaw (angleCalAction operands s).after := by
  unfold angleCalAction
  split
  · split
    · exact law
    · next parsed =>
      exact sensingLaw_of_posture law (((sensingLaw_iff s).mp law).1.calibrate (parseOffset_range parsed)) rfl
  · exact law

theorem gainLoadAction_keepsSensing {s : State} (law : SensingLaw s) (operands : List Byte) :
    SensingLaw (gainLoadAction operands s).after := by
  have good := ((sensingLaw_iff s).mp law).2
  unfold gainLoadAction
  split
  · next first _ bytes =>
    split
    · exact law
    · next table _ =>
      dsimp only
      split
      · exact law
      · next refused =>
        have inRange : ∀ v ∈ be16s bytes, v ≤ 4095 := by simp only [not_or] at refused; simpa using refused.2.2.2.2
        have flat := good.setTables (writeGains_le (first := first.toNat) good.gains.flat inRange) good.gains.fold
          good.points
        have fold := good.setTables good.gains.flat (writeGains_le (first := first.toNat) good.gains.fold inRange)
          good.points
        cases table with
        | flat => dsimp only [Reply.done]; exact sensingLaw_of_gain law rfl flat
        | fold => dsimp only [Reply.done]; exact sensingLaw_of_gain law rfl fold
  · exact law

theorem gainPointsAction_keepsSensing {s : State} (law : SensingLaw s) (operands : List Byte) :
    SensingLaw (gainPointsAction operands s).after := by
  have good := ((sensingLaw_iff s).mp law).2
  unfold gainPointsAction
  split
  · split
    · next passes =>
      obtain ⟨-, top, order⟩ := (pointsInRange_iff ..).mp passes
      exact sensingLaw_of_gain law rfl (good.setTables good.gains.flat good.gains.fold ⟨order, top⟩)
    · exact law
  · exact law

theorem State.resetPart_keepsSensing (s : State) : SensingLaw s.resetPart :=
  (State.estopActs_sameUnits _).keepsSensing (sensingLaw_of_same reset_sensingLaw rfl (.refl _))

theorem State.setUpFrame_keepsSensing {s : State} (law : SensingLaw s) (number : Word16) (width height : Nat) :
    SensingLaw (s.setUpFrame number width height) := by
  obtain ⟨posture, gains⟩ := (sensingLaw_iff s).mp law
  have taken := gains.takeSnapshot posture.weight
  unfold State.setUpFrame
  dsimp only
  split
  · exact sensingLaw_of_gain law rfl taken
  · exact sensingLaw_of_gain law rfl taken

/-- An attempt that is broken off and aborted (R59 to R61). -/
theorem State.breakOff_abort_keepsSensing {s : State} (law : SensingLaw s) (f : Nat → List BusSymbol) (r : Request)
    (after : BusAfter) : SensingLaw ((s.breakOff f).abort r after) := by
  refine State.abort_keepsSensing ?_ r after
  exact sensingLaw_of_same law rfl (.refl _)

/-- A command keeps the ranges when its action does (R165). -/
theorem State.carryOut_keepsSensing {s : State} (law : SensingLaw s) {code : Byte} {fits : List Byte → Bool}
    {exempt : Bool} {act : List Byte → State → Reply} (acted : ∀ operands, SensingLaw (act operands s).after) :
    Answers SensingLaw (.next (s.carryOut code fits exempt act)) :=
  State.carryOut_keepsProp law (fun t _ _ => (t.respond_sameUnits ..).keepsSensing) fun operands _ => acted operands

theorem execSoftReset_keepsSensing {s : State} (law : SensingLaw s) : Answers SensingLaw (execSoftReset s) := by
  unfold execSoftReset
  split
  · exact ⟨_, rfl, law⟩
  · exact ⟨_, rfl, (s.respond_sameUnits ..).keepsSensing law⟩
  · exact ⟨_, rfl, State.resetPart_keepsSensing _⟩

theorem execSampleTimerExpiry_keepsSensing {s : State} (law : SensingLaw s) :
    Answers SensingLaw (execSampleTimerExpiry s) := by
  have good := ((sensingLaw_iff s).mp law).1
  unfold execSampleTimerExpiry
  dsimp only
  split
  · exact ⟨_, rfl, sensingLaw_of_posture law (good.flags ..) rfl⟩
  · exact ⟨_, rfl, sensingLaw_of_posture law (good.flags ..) rfl⟩

theorem execTransactionStart_keepsSensing {s : State} (law : SensingLaw s) :
    Answers SensingLaw (execTransactionStart s) := by
  unfold execTransactionStart
  split <;> exact ⟨_, rfl, sensingLaw_of_same law rfl (.refl _)⟩

theorem execArbitrationLost_keepsSensing {s : State} (law : SensingLaw s) :
    Answers SensingLaw (execArbitrationLost s) := by
  unfold execArbitrationLost
  split <;> exact ⟨_, rfl, sensingLaw_of_same law rfl (.refl _)⟩

theorem State.completeRead_keepsSensing {s : State} (law : SensingLaw s) (r : Request) (received : List Byte)
    (lateLoss : Bool) : SensingLaw (s.completeRead r received lateLoss) := by
  unfold State.completeRead
  split <;> exact sensingLaw_of_same law rfl (.refl _)

theorem execSensorReadComplete_keepsSensing {s : State} (law : SensingLaw s) (first second : Byte) (lateLoss : Bool) :
    Answers SensingLaw (execSensorReadComplete first second lateLoss s) := by
  unfold execSensorReadComplete
  split
  · exact ⟨_, rfl, State.goodSample_keepsSensing (State.completeRead_keepsSensing law ..) ..⟩
  · exact ⟨_, rfl, law⟩

theorem execNvmReadComplete_keepsSensing {s : State} (law : SensingLaw s) (bytes : List Byte) (lateLoss : Bool) :
    Answers SensingLaw (execNvmReadComplete bytes lateLoss s) := by
  unfold execNvmReadComplete
  split
  · split
    · exact ⟨_, rfl, State.loaderTakes_keepsSensing (State.completeRead_keepsSensing law ..) _⟩
    · exact ⟨_, rfl, law⟩
  · exact ⟨_, rfl, law⟩

theorem execNackAbort_keepsSensing {s : State} (law : SensingLaw s) : Answers SensingLaw (execNackAbort s) := by
  unfold execNackAbort
  split
  · exact ⟨_, rfl, State.breakOff_abort_keepsSensing law ..⟩
  · exact ⟨_, rfl, law⟩

theorem execStretchTimeout_keepsSensing {s : State} (law : SensingLaw s) :
    Answers SensingLaw (execStretchTimeout s) := by
  unfold execStretchTimeout
  split
  · exact ⟨_, rfl, State.breakOff_abort_keepsSensing law ..⟩
  · exact ⟨_, rfl, law⟩

theorem execTotalTimeout_keepsSensing {s : State} (law : SensingLaw s) (sclHeldLow : Bool) :
    Answers SensingLaw (execTotalTimeout sclHeldLow s) := by
  unfold execTotalTimeout
  split
  · exact ⟨_, rfl, State.abort_keepsSensing law ..⟩
  · split <;> exact ⟨_, rfl, State.breakOff_abort_keepsSensing law ..⟩
  · exact ⟨_, rfl, law⟩

theorem execFrameSetUp_keepsSensing {s : State} (law : SensingLaw s) : Answers SensingLaw (execFrameSetUp s) := by
  unfold execFrameSetUp
  split
  · refine ⟨_, rfl, State.setUpFrame_keepsSensing ?_ ..⟩
    exact sensingLaw_of_same law rfl (.refl _)
  · exact ⟨_, rfl, law⟩

/-- Every command keeps the ranges. -/
theorem exec_keepsSensing (c : Instr) {s : State} (law : SensingLaw s) : Answers SensingLaw (exec c s) := by
  cases c with
  | reset => exact ⟨_, rfl, s.resetPart_keepsSensing⟩
  | softReset => exact execSoftReset_keepsSensing law
  | faceSet => exact State.carryOut_keepsSensing law (faceSetAction_keepsSensing law)
  | angleSet => exact State.carryOut_keepsSensing law (angleSetAction_keepsSensing law)
  | angleCal => exact State.carryOut_keepsSensing law (angleCalAction_keepsSensing law)
  | gainLoad => exact State.carryOut_keepsSensing law (gainLoadAction_keepsSensing law)
  | gainPoints => exact State.carryOut_keepsSensing law (gainPointsAction_keepsSensing law)
  | imageReload => exact State.carryOut_keepsSensing law fun _ => sensingLaw_of_same law rfl (.refl _)
  | sampleTimerExpiry => exact execSampleTimerExpiry_keepsSensing law
  | busStartSeen | busStopSeen | busIdleTimeout | busLineLow =>
    exact ⟨_, rfl, sensingLaw_of_same law rfl (.refl _)⟩
  | transactionStart => exact execTransactionStart_keepsSensing law
  | arbitrationLost => exact execArbitrationLost_keepsSensing law
  | sensorReadComplete first second lateLoss => exact execSensorReadComplete_keepsSensing law first second lateLoss
  | nvmReadComplete bytes lateLoss => exact execNvmReadComplete_keepsSensing law bytes lateLoss
  | nackAbort => exact execNackAbort_keepsSensing law
  | stretchTimeout => exact execStretchTimeout_keepsSensing law
  | totalTimeout sclHeldLow => exact execTotalTimeout_keepsSensing law sclHeldLow
  | frameSetUp => exact execFrameSetUp_keepsSensing law
  | _ => exact (exec_leavesUnits rfl s).mono fun _ same => same.keepsSensing law

/-- Settles O27: idling moves a timer alone, and every command keeps the ranges. -/
theorem everyStepKeepsSensing : Obligations.EveryStepKeepsSensing := by
  intro s t law
  refine step_keeps (P := SensingLaw) (fun s law => ?_) (fun s rest law => ?_) (fun c s => exec_keepsSensing c) law
  · exact sensingLaw_of_posture law (((sensingLaw_iff s).mp law).1.flags ..) rfl
  · exact sensingLaw_of_same law rfl (.refl _)

end Sys2Proof.Machine
end

section
/-! Every step keeps the law of the side bus slot, the waiting request and the outstanding reads (R27, R51 to R57,
R181). -/

namespace Sys2Proof.Machine

open Sys2Proof.Safety

/-! ### The law, case by case -/

/-- An NVM read of this many bytes is one that a RUNNING loader in this phase has asked for (R181). -/
structure AskedFor (phase : LoaderPhase) (count : Nat) : Prop where
  running : phase ≠ .idle
  marker : phase = .marker → count = 1
  header : phase = .header → count = 4

/-- What the slot and the waiting request may hold, with the outstanding read, the loader's state and its phase: nothing,
a sensor read, an NVM read behind a sensor read, or an NVM read (R27, R52, R53, R181). -/
inductive Held : Option Request → Option Request → Bool → Bool → LoaderPhase → Prop where
  | nothing : Held none none false false .idle
  | sensor (device : BitVec 7) (register : Byte) : Held (some (.sensor device register)) none true false .idle
  | nvmBehind (device : BitVec 7) (register : Byte) (address : Nat) {count : Nat} {phase : LoaderPhase} :
    AskedFor phase count → Held (some (.sensor device register)) (some (.nvm address count)) true true phase
  | nvm (address : Nat) {count : Nat} {phase : LoaderPhase} :
    AskedFor phase count → Held (some (.nvm address count)) none false true phase

/-- The FL420 drives the lines exactly while a transaction is ACTIVE (R51, R57). -/
def LinesLaw (b : SideBus) : Prop := b.linesReleased = false ↔ ∃ r, b.slot = .active r

/-- What is held in a state. -/
def HeldIn (s : State) : Prop :=
  Held (slotRequest s.bus.slot) s.bus.waitingRequest s.posture.outstanding s.loader.running s.loader.phase

theorem HeldIn.requestLaw {s : State} (held : HeldIn s) (lines : LinesLaw s.bus) : RequestLaw s := by
  unfold HeldIn at held
  generalize hslot : slotRequest s.bus.slot = slot at held
  generalize hwaiting : s.bus.waitingRequest = waiting at held
  generalize houtstanding : s.posture.outstanding = outstanding at held
  generalize hrunning : s.loader.running = running at held
  generalize hphase : s.loader.phase = phase at held
  cases held with
  | nothing => refine ⟨?_, ?_, ?_, ?_, ?_, ?_, lines⟩ <;> simp [hslot, hwaiting, houtstanding, hrunning, hphase]
  | sensor device register =>
    refine ⟨?_, ?_, ?_, ?_, ?_, ?_, lines⟩ <;> simp [hslot, hwaiting, houtstanding, hrunning, hphase]
  | nvmBehind device register address asked =>
    refine ⟨?_, ?_, ?_, ?_, ?_, ?_, lines⟩ <;>
      simp [hslot, hwaiting, houtstanding, hrunning, hphase, isNvm, asked.running]
    exacts [asked.header, asked.marker]
  | nvm address asked =>
    refine ⟨?_, ?_, ?_, ?_, ?_, ?_, lines⟩ <;>
      simp [hslot, hwaiting, houtstanding, hrunning, hphase, asked.running]
    exacts [asked.header, asked.marker]

theorem heldIn_of_requestLaw {s : State} (law : RequestLaw s) : HeldIn s := by
  obtain ⟨sensor, nvm, behind, phase, header, marker, -⟩ := law
  unfold HeldIn
  generalize slotRequest s.bus.slot = slot at *
  generalize s.bus.waitingRequest = waiting at *
  generalize s.posture.outstanding = outstanding at *
  generalize s.loader.running = running at *
  generalize s.loader.phase = loaderPhase at *
  have asked : running = true → ∀ a n, slot = some (.nvm a n) ∨ waiting = some (.nvm a n) →
      AskedFor loaderPhase n := fun run a n held =>
    ⟨phase.mp run, fun h => marker h a n held, fun h => header h a n held⟩
  rcases slot with _ | ⟨device, register⟩ | ⟨address, count⟩
  · obtain rfl : waiting = none := Option.eq_none_iff_forall_ne_some.mpr fun r hr => by simpa using behind r hr
    obtain rfl : outstanding = false := by simpa using sensor
    obtain rfl : running = false := by simpa using nvm
    obtain rfl : loaderPhase = .idle := by simpa using phase
    exact .nothing
  · obtain rfl : outstanding = true := by simpa using sensor
    rcases waiting with _ | ⟨device', register'⟩ | ⟨address, count⟩
    · obtain rfl : running = false := by simpa using nvm
      obtain rfl : loaderPhase = .idle := by simpa using phase
      exact .sensor ..
    · cases (behind _ rfl).1
    · obtain rfl : running = true := by simpa using nvm
      exact .nvmBehind _ _ _ (asked rfl _ _ (.inr rfl))
  · obtain rfl : outstanding = false := by simpa using sensor
    obtain rfl : waiting = none := Option.eq_none_iff_forall_ne_some.mpr fun r hr => by simpa using (behind r hr).2
    obtain rfl : running = true := by simpa using nvm
    exact .nvm _ (asked rfl _ _ (.inl rfl))

theorem requestLaw_iff (s : State) : RequestLaw s ↔ HeldIn s ∧ LinesLaw s.bus :=
  ⟨fun law => ⟨heldIn_of_requestLaw law, law.driven⟩, fun ⟨held, lines⟩ => held.requestLaw lines⟩

/-! ### Nothing of it changes -/

/-- The slot, the waiting request, the lines and the two requesters are as they were. -/
structure SameRequests (s t : State) : Prop where
  outstanding : t.posture.outstanding = s.posture.outstanding
  slot : t.bus.slot = s.bus.slot
  waiting : t.bus.waitingRequest = s.bus.waitingRequest
  lines : t.bus.linesReleased = s.bus.linesReleased
  running : t.loader.running = s.loader.running
  phase : t.loader.phase = s.loader.phase

theorem SameRequests.refl (s : State) : SameRequests s s := ⟨rfl, rfl, rfl, rfl, rfl, rfl⟩

theorem requestLaw_of_same {s t : State} (law : RequestLaw s) (same : SameRequests s t) : RequestLaw t := by
  rw [requestLaw_iff] at *
  unfold HeldIn LinesLaw at *
  rw [same.outstanding, same.slot, same.waiting, same.lines, same.running, same.phase]
  exact law

theorem SameUnits.keepsRequests {s t : State} (same : SameUnits s t) (law : RequestLaw s) : RequestLaw t :=
  requestLaw_of_same law ⟨by rw [same.posture], by rw [same.bus], by rw [same.bus], by rw [same.bus],
    by rw [same.loader], by rw [same.loader]⟩

/-! ### The slot is handed on (R52) -/

/-- The slot has become EMPTY and taken the waiting request; the requesters do not know of it yet. -/
structure HandedOn (s u : State) : Prop where
  slot : slotRequest u.bus.slot = s.bus.waitingRequest
  waiting : u.bus.waitingRequest = none
  lines : LinesLaw u.bus
  outstanding : u.posture.outstanding = s.posture.outstanding
  running : u.loader.running = s.loader.running
  phase : u.loader.phase = s.loader.phase

theorem handedOn_slotRequest (b : SideBus) (received : List Byte) (after : BusState) (high : Bool) :
    slotRequest (handedOn b received after high).slot = b.waitingRequest := by
  simp only [handedOn]
  cases b.waitingRequest <;> rfl

theorem handedOn_linesLaw (b : SideBus) (received : List Byte) (after : BusState) (high : Bool) :
    LinesLaw (handedOn b received after high) := by
  simp only [LinesLaw, handedOn]
  cases b.waitingRequest <;> simp

theorem handedOn_of_bus {s u : State} {received : List Byte} {after : BusState} {high : Bool}
    (bus : u.bus = handedOn s.bus received after high) (posture : u.posture = s.posture)
    (loader : u.loader = s.loader) : HandedOn s u where
  slot := by rw [bus]; exact handedOn_slotRequest ..
  waiting := by rw [bus]; rfl
  lines := by rw [bus]; exact handedOn_linesLaw ..
  outstanding := by rw [posture]
  running := by rw [loader]
  phase := by rw [loader]

theorem State.completeRead_handedOn (s : State) (r : Request) (received : List Byte) (lateLoss : Bool) :
    HandedOn s (s.completeRead r received lateLoss) := by
  unfold State.completeRead
  split <;> exact handedOn_of_bus (received := received) rfl rfl rfl

/-- After the end of a sensor read the requester has it no more: an NVM read that waited is in the slot. -/
theorem HandedOn.requestLaw_of_sensor {s u t : State} (handed : HandedOn s u) (law : RequestLaw s) {device : BitVec 7}
    {register : Byte} (slot : slotRequest s.bus.slot = some (.sensor device register)) (frame : SampleFrame u t)
    (outstanding : t.posture.outstanding = false) : RequestLaw t := by
  have held := heldIn_of_requestLaw law
  refine HeldIn.requestLaw ?_ (frame.bus ▸ handed.lines)
  unfold HeldIn at *
  rw [frame.bus, frame.loader, handed.slot, handed.waiting, handed.running, handed.phase, outstanding]
  rw [slot] at held
  generalize s.bus.waitingRequest = waiting at *
  generalize s.posture.outstanding = outstanding at held
  generalize s.loader.running = running at *
  generalize s.loader.phase = phase at *
  cases held with
  | sensor => exact .nothing
  | nvmBehind _ _ address asked => exact .nvm address asked

/-- Between two reads of a loader run: the loader is RUNNING and no read is held. -/
structure BetweenReads (s : State) : Prop where
  slot : s.bus.slot = .empty
  waiting : s.bus.waitingRequest = none
  lines : s.bus.linesReleased = true
  outstanding : s.posture.outstanding = false
  running : s.loader.running = true

theorem slotRequest_eq_none_iff (slot : TransactionSlot) : slotRequest slot = none ↔ slot = .empty := by
  cases slot <;> simp [slotRequest]

/-- After the end of an NVM read no read is held. -/
theorem HandedOn.betweenReads {s u : State} (handed : HandedOn s u) (law : RequestLaw s) {address count : Nat}
    (slot : slotRequest s.bus.slot = some (.nvm address count)) :
    BetweenReads u ∧ AskedFor u.loader.phase count := by
  have held := heldIn_of_requestLaw law
  unfold HeldIn at held
  rw [slot, ← handed.slot, ← handed.outstanding, ← handed.running, ← handed.phase] at held
  generalize houtstanding : u.posture.outstanding = outstanding at *
  generalize hrunning : u.loader.running = running at *
  generalize hslot : slotRequest u.bus.slot = slot at *
  cases held with
  | nvm _ asked =>
    have empty := (slotRequest_eq_none_iff _).mp hslot
    have lines : u.bus.linesReleased = true := by
      have := handed.lines
      rw [LinesLaw, empty] at this
      simpa using this
    exact ⟨⟨empty, handed.waiting, lines, houtstanding, hrunning⟩, asked⟩

/-! ### The walk through the image (R181, R185) -/

/-- The run ends with no read held. -/
theorem BetweenReads.endRun {s : State} (h : BetweenReads s) (outcome : LoadOutcome) (address : Nat) :
    RequestLaw (s.endRun outcome address) := by
  refine HeldIn.requestLaw ?_ ?_
  · show Held (slotRequest s.bus.slot) s.bus.waitingRequest s.posture.outstanding false .idle
    rw [h.slot, h.waiting, h.outstanding]
    exact .nothing
  · show LinesLaw s.bus
    simp [LinesLaw, h.slot, h.lines]

/-- The run goes on with the next read in the slot. -/
theorem BetweenReads.request {s : State} (h : BetweenReads s) (address : Nat) {count : Nat}
    (asked : AskedFor s.loader.phase count) : RequestLaw (s.request (.nvm address count)) := by
  have bus : (s.request (.nvm address count)).bus =
      { s.bus with slot := .waiting (.nvm address count), totalTimer := 0 } := by
    simp [SideBus.request, h.slot]
  refine HeldIn.requestLaw ?_ ?_
  · unfold HeldIn
    rw [bus, State.request_posture, State.request_loader, h.outstanding, h.running]
    dsimp only
    rw [h.waiting]
    exact .nvm address asked
  · rw [bus]
    simp [LinesLaw, h.lines]

/-- A section writes neither the requests nor the loader (R182). -/
theorem BetweenReads.applySection {s : State} (h : BetweenReads s) (kind : Byte) (body : List Byte) :
    BetweenReads (s.applySection kind body).2 := by
  have frame := s.applySection_frame kind body
  have outstanding : (s.applySection kind body).2.posture.outstanding = s.posture.outstanding := by
    obtain same | ⟨_, _, -, -, heq⟩ | ⟨_, -, heq⟩ := s.applySection_units kind body
    · rw [same.posture]
    · rw [heq]; rfl
    · rw [heq]
  exact ⟨by rw [frame.bus, h.slot], by rw [frame.bus, h.waiting], by rw [frame.bus, h.lines],
    by rw [outstanding, h.outstanding], by rw [frame.loader, h.running]⟩

/-- A completed read of the bytes that the loader asked for leads to its next read or to its end (R181). -/
theorem BetweenReads.loaderTakes {s : State} (h : BetweenReads s) {bytes : List Byte}
    (asked : AskedFor s.loader.phase bytes.length) : RequestLaw (s.loaderTakes bytes) := by
  refine State.loaderTakes_induction (P := BetweenReads) (Q := RequestLaw)
    (registers := fun s l i h running => ⟨h.slot, h.waiting, h.lines, h.outstanding, running.trans h.running⟩)
    (applied := fun s kind body h => h.applySection kind body)
    (ended := fun s outcome address h => h.endRun outcome address)
    (header := fun s address h phase => h.request address ⟨by simp [phase], by simp [phase], by simp [phase]⟩)
    (body := fun s kind length got address count h phase =>
      h.request address ⟨by simp [phase], by simp [phase], by simp [phase]⟩)
    h fun unasked => ?_
  rcases unasked with idle | ⟨marker, hlen⟩ | ⟨header, hlen⟩
  · exact absurd idle asked.running
  · exact absurd (asked.marker marker) hlen
  · exact absurd (asked.header header) hlen

/-! ### The commands that write these units -/

/-- A sample is requested only while nothing is held (R27). -/
theorem execSampleTimerExpiry_keepsRequests {s : State} (law : RequestLaw s) :
    Answers RequestLaw (execSampleTimerExpiry s) := by
  unfold execSampleTimerExpiry
  dsimp only
  split
  · exact ⟨_, rfl, requestLaw_of_same law ⟨rfl, rfl, rfl, rfl, rfl, rfl⟩⟩
  · next due =>
    refine ⟨_, rfl, ?_⟩
    have held := heldIn_of_requestLaw law
    obtain ⟨running, outstanding⟩ : s.loader.running = false ∧ s.posture.outstanding = false := by simpa using due
    unfold HeldIn at held
    rw [running, outstanding] at held
    generalize hslot : slotRequest s.bus.slot = slot at held
    generalize hwaiting : s.bus.waitingRequest = waiting at held
    generalize hphase : s.loader.phase = phase at held
    cases held with
    | nothing =>
      have empty := (slotRequest_eq_none_iff _).mp hslot
      have lines := law.driven
      refine HeldIn.requestLaw ?_ ?_
      · simp only [HeldIn, State.request, SideBus.request, empty, slotRequest, hwaiting, running, hphase]
        exact .sensor ..
      · simp only [LinesLaw, State.request, SideBus.request, empty] at lines ⊢
        simpa using lines

/-- A loader run starts with nothing held, or behind a sensor read (R52, R53, R180). -/
theorem State.startRun_requestLaw {s : State} (law : RequestLaw s) (idle : s.loader.running = false) :
    RequestLaw s.startRun := by
  have held := heldIn_of_requestLaw law
  have lines := law.driven
  have asked : AskedFor .marker 1 := ⟨by simp, by simp, by simp⟩
  unfold HeldIn at held
  rw [idle] at held
  generalize hslot : slotRequest s.bus.slot = slot at held
  generalize hwaiting : s.bus.waitingRequest = waiting at held
  generalize houtstanding : s.posture.outstanding = outstanding at held
  generalize s.loader.phase = phase at held
  cases held with
  | nothing =>
    have empty := (slotRequest_eq_none_iff _).mp hslot
    refine HeldIn.requestLaw ?_ ?_
    · simp only [HeldIn, State.startRun, State.request, SideBus.request, empty, slotRequest, hwaiting, houtstanding]
      exact .nvm _ asked
    · simp only [LinesLaw, State.startRun, State.request, SideBus.request, empty] at lines ⊢
      simpa using lines
  | sensor device register =>
    obtain ⟨empty, -⟩ | ⟨-, request⟩ := s.bus.request_cases markerRequest
    · rw [empty] at hslot
      cases hslot
    · have bus : s.startRun.bus = { s.bus with waitingRequest := some markerRequest } := request
      refine HeldIn.requestLaw ?_ ?_
      · unfold HeldIn
        rw [bus]
        show Held (slotRequest s.bus.slot) (some markerRequest) s.posture.outstanding true .marker
        rw [hslot, houtstanding]
        exact .nvmBehind _ _ _ asked
      · rw [bus]
        exact lines

/-- An abort is handed to the requester whose read was in the slot (R62). -/
theorem State.abort_requestLaw {s u : State} (law : RequestLaw s) {r : Request} (slot : slotRequest s.bus.slot = some r)
    (bus : u.bus = s.bus) (posture : u.posture = s.posture) (loader : u.loader = s.loader) (after : BusAfter) :
    RequestLaw (u.abort r after) := by
  have handed : HandedOn s (u.endTransaction [] after) :=
    handedOn_of_bus (received := []) (by rw [← bus]; rfl) posture loader
  cases r with
  | sensor device register =>
    refine handed.requestLaw_of_sensor law slot (State.failedSample_frame _) ?_
    exact congrArg (·.posture.outstanding) (State.failedSample_eq _)
  | nvm address count =>
    obtain ⟨between, -⟩ := handed.betweenReads law slot
    show RequestLaw (State.loaderFails _)
    rw [State.loaderFails, if_pos between.running]
    exact between.endRun ..

/-- See `State.abort_requestLaw`: an attempt that is broken off (R59 to R61). -/
theorem State.breakOff_abort_requestLaw {s : State} (law : RequestLaw s) {r : Request} (slot : s.bus.slot = .active r)
    (f : Nat → List BusSymbol) (after : BusAfter) : RequestLaw ((s.breakOff f).abort r after) :=
  State.abort_requestLaw (u := s.breakOff f) law (by rw [slot]; rfl) rfl rfl rfl after

theorem slotRequest_of_active {b : SideBus} {r : Request} (h : b.slot = .active r) : slotRequest b.slot = some r := by
  rw [h]; rfl

theorem execTransactionStart_keepsRequests {s : State} (law : RequestLaw s) :
    Answers RequestLaw (execTransactionStart s) := by
  unfold execTransactionStart
  split
  · next r waiting _ =>
    refine ⟨_, rfl, HeldIn.requestLaw ?_ ?_⟩
    · have held := heldIn_of_requestLaw law
      unfold HeldIn at held
      rw [waiting] at held
      exact held
    · exact iff_of_true rfl ⟨r, rfl⟩
  · exact ⟨_, rfl, law⟩

theorem execArbitrationLost_keepsRequests {s : State} (law : RequestLaw s) :
    Answers RequestLaw (execArbitrationLost s) := by
  unfold execArbitrationLost
  split
  · next r active =>
    refine ⟨_, rfl, HeldIn.requestLaw ?_ ?_⟩
    · have held := heldIn_of_requestLaw law
      unfold HeldIn at held
      rw [active] at held
      exact held
    · exact iff_of_false (by simp) (by simp)
  · exact ⟨_, rfl, law⟩

theorem State.goodSample_outstanding (s : State) (first second : Byte) :
    (s.goodSample first second).posture.outstanding = false := by
  rw [s.goodSample_eq, State.classifySample_posture]
  rfl

theorem execSensorReadComplete_keepsRequests {s : State} (law : RequestLaw s) (first second : Byte) (lateLoss : Bool) :
    Answers RequestLaw (execSensorReadComplete first second lateLoss s) := by
  unfold execSensorReadComplete
  split
  · next active =>
    exact ⟨_, rfl, (s.completeRead_handedOn ..).requestLaw_of_sensor law (slotRequest_of_active active)
      (State.goodSample_frame ..) (State.goodSample_outstanding ..)⟩
  · exact ⟨_, rfl, law⟩

theorem execNvmReadComplete_keepsRequests {s : State} (law : RequestLaw s) (bytes : List Byte) (lateLoss : Bool) :
    Answers RequestLaw (execNvmReadComplete bytes lateLoss s) := by
  unfold execNvmReadComplete
  split
  · next active =>
    split
    · next hlen =>
      obtain ⟨between, asked⟩ := (s.completeRead_handedOn _ bytes lateLoss).betweenReads law
        (slotRequest_of_active active)
      exact ⟨_, rfl, between.loaderTakes (hlen ▸ asked)⟩
    · exact ⟨_, rfl, law⟩
  · exact ⟨_, rfl, law⟩

theorem execNackAbort_keepsRequests {s : State} (law : RequestLaw s) : Answers RequestLaw (execNackAbort s) := by
  unfold execNackAbort
  split
  · next active => exact ⟨_, rfl, State.breakOff_abort_requestLaw law active ..⟩
  · exact ⟨_, rfl, law⟩

theorem execStretchTimeout_keepsRequests {s : State} (law : RequestLaw s) :
    Answers RequestLaw (execStretchTimeout s) := by
  unfold execStretchTimeout
  split
  · next active => exact ⟨_, rfl, State.breakOff_abort_requestLaw law active ..⟩
  · exact ⟨_, rfl, law⟩

theorem execTotalTimeout_keepsRequests {s : State} (law : RequestLaw s) (sclHeldLow : Bool) :
    Answers RequestLaw (execTotalTimeout sclHeldLow s) := by
  unfold execTotalTimeout
  split
  · next waiting => exact ⟨_, rfl, State.abort_requestLaw law (by rw [waiting]; rfl) rfl rfl rfl _⟩
  · next active =>
    split
    · exact ⟨_, rfl, State.breakOff_abort_requestLaw law active ..⟩
    · exact ⟨_, rfl, State.breakOff_abort_requestLaw law active ..⟩
  · exact ⟨_, rfl, law⟩

theorem execFrameSetUp_keepsRequests {s : State} (law : RequestLaw s) : Answers RequestLaw (execFrameSetUp s) := by
  unfold execFrameSetUp State.setUpFrame
  split
  · dsimp only
    split <;> exact ⟨_, rfl, requestLaw_of_same law ⟨rfl, rfl, rfl, rfl, rfl, rfl⟩⟩
  · exact ⟨_, rfl, law⟩

/-- A reset leaves the loader's first read in the slot (R51, R63, R180). -/
theorem State.resetPart_requestLaw (s : State) : RequestLaw s.resetPart :=
  (State.estopActs_sameUnits _).keepsRequests (requestLaw_of_same reset_requestLaw ⟨rfl, rfl, rfl, rfl, rfl, rfl⟩)

theorem execSoftReset_keepsRequests {s : State} (law : RequestLaw s) : Answers RequestLaw (execSoftReset s) := by
  unfold execSoftReset
  split
  · exact ⟨_, rfl, law⟩
  · exact ⟨_, rfl, (s.respond_sameUnits ..).keepsRequests law⟩
  · exact ⟨_, rfl, State.resetPart_requestLaw _⟩

/-- A command keeps the law when its action does (R165). -/
theorem State.carryOut_keepsRequests {s : State} (law : RequestLaw s) {code : Byte} {fits : List Byte → Bool}
    {exempt : Bool} {act : List Byte → State → Reply} (acted : ∀ operands, SameRequests s (act operands s).after) :
    Answers RequestLaw (.next (s.carryOut code fits exempt act)) :=
  State.carryOut_keepsProp law (fun t _ _ => (t.respond_sameUnits ..).keepsRequests) fun operands _ =>
    requestLaw_of_same law (acted operands)

theorem execImageReload_keepsRequests {s : State} (law : RequestLaw s) : Answers RequestLaw (execImageReload s) :=
  State.carryOut_keepsProp law (fun t _ _ => (t.respond_sameUnits ..).keepsRequests) fun operands granted => by
    obtain ⟨-, -, idle | exempt⟩ := s.turn_granted _ _ _ _ granted
    · exact State.startRun_requestLaw law idle
    · cases exempt

theorem faceSetAction_sameRequests (operands : List Byte) (s : State) :
    SameRequests s (faceSetAction operands s).after := by
  unfold faceSetAction
  split
  · split
    · exact .refl s
    · dsimp only
      split <;> exact ⟨rfl, rfl, rfl, rfl, rfl, rfl⟩
  · exact .refl s

theorem angleSetAction_sameRequests (operands : List Byte) (s : State) :
    SameRequests s (angleSetAction operands s).after := by
  unfold angleSetAction
  split <;> exact ⟨rfl, rfl, rfl, rfl, rfl, rfl⟩

theorem angleCalAction_sameRequests (operands : List Byte) (s : State) :
    SameRequests s (angleCalAction operands s).after := by
  unfold angleCalAction
  split
  · split <;> exact ⟨rfl, rfl, rfl, rfl, rfl, rfl⟩
  · exact .refl s

theorem gainLoadAction_sameRequests (operands : List Byte) (s : State) :
    SameRequests s (gainLoadAction operands s).after := by
  unfold gainLoadAction
  split
  · split
    · exact .refl s
    · dsimp only
      split <;> exact ⟨rfl, rfl, rfl, rfl, rfl, rfl⟩
  · exact .refl s

theorem gainPointsAction_sameRequests (operands : List Byte) (s : State) :
    SameRequests s (gainPointsAction operands s).after := by
  unfold gainPointsAction
  split
  · split <;> exact ⟨rfl, rfl, rfl, rfl, rfl, rfl⟩
  · exact .refl s

/-- Every command keeps the law. -/
theorem exec_keepsRequests (c : Instr) {s : State} (law : RequestLaw s) : Answers RequestLaw (exec c s) := by
  cases c with
  | reset => exact ⟨_, rfl, s.resetPart_requestLaw⟩
  | softReset => exact execSoftReset_keepsRequests law
  | faceSet => exact State.carryOut_keepsRequests law fun _ => faceSetAction_sameRequests _ s
  | angleSet => exact State.carryOut_keepsRequests law fun _ => angleSetAction_sameRequests _ s
  | angleCal => exact State.carryOut_keepsRequests law fun _ => angleCalAction_sameRequests _ s
  | gainLoad => exact State.carryOut_keepsRequests law fun _ => gainLoadAction_sameRequests _ s
  | gainPoints => exact State.carryOut_keepsRequests law fun _ => gainPointsAction_sameRequests _ s
  | imageReload => exact execImageReload_keepsRequests law
  | sampleTimerExpiry => exact execSampleTimerExpiry_keepsRequests law
  | busStartSeen | busStopSeen | busIdleTimeout | busLineLow =>
    exact ⟨_, rfl, requestLaw_of_same law ⟨rfl, rfl, rfl, rfl, rfl, rfl⟩⟩
  | transactionStart => exact execTransactionStart_keepsRequests law
  | arbitrationLost => exact execArbitrationLost_keepsRequests law
  | sensorReadComplete first second lateLoss => exact execSensorReadComplete_keepsRequests law first second lateLoss
  | nvmReadComplete bytes lateLoss => exact execNvmReadComplete_keepsRequests law bytes lateLoss
  | nackAbort => exact execNackAbort_keepsRequests law
  | stretchTimeout => exact execStretchTimeout_keepsRequests law
  | totalTimeout sclHeldLow => exact execTotalTimeout_keepsRequests law sclHeldLow
  | frameSetUp => exact execFrameSetUp_keepsRequests law
  | _ => exact (exec_leavesUnits rfl s).mono fun _ same => same.keepsRequests law

/-- Settles O31: idling moves the timers alone, and every command keeps the law. -/
theorem everyStepKeepsRequests : Obligations.EveryStepKeepsRequests := by
  intro s t law
  refine step_keeps (P := RequestLaw) (fun s law => ?_) (fun s rest law => ?_) (fun c s => exec_keepsRequests c) law
  · exact requestLaw_of_same law ⟨rfl, rfl, rfl, rfl, rfl, rfl⟩
  · exact requestLaw_of_same law ⟨rfl, rfl, rfl, rfl, rfl, rfl⟩

end Sys2Proof.Machine
end

section
/-! What an idle step moves, a sample timer expiry, and the commands of chapter 2 (R27, R39, R45, R47). -/

namespace Sys2Proof.Machine

open Sys2Proof.Safety

/-! ### The passing of time (log 1, log 9) -/

open Sys2Proof.Config in
theorem runsUpTo_between (clock : Clock) (index limit count : Nat) :
    count ≤ runsUpTo clock index limit count ∧ runsUpTo clock index limit count ≤ max count (limit - 1) := by
  unfold runsUpTo
  omega

open Sys2Proof.Config in
theorem runsDownTo1_between (clock : Clock) (index count : Nat) :
    runsDownTo1 clock index count ≤ count ∧ min count 1 ≤ runsDownTo1 clock index count := by
  unfold runsDownTo1
  omega

theorem EmissionUnit.timePasses_get (e : EmissionUnit) (index : Nat) (z : Zone) :
    (e.timePasses index).zones.get z =
      { e.zones.get z with counter := runsUpTo .pwm index e.period (e.zones.get z).counter } :=
  PerZone.get_map ..

/-- Settles O2: the idle step counter by counter. -/
theorem idleStepMovesClocksAlone : Obligations.IdleStepMovesClocksAlone := by
  intro s idle
  refine ⟨s.timePasses, by simp only [step, idle], rfl, rfl, rfl, rfl, rfl, rfl, rfl, idle, rfl, rfl, rfl, ?sample, rfl,
    ?lines, ?busIdle, ?busTotal, ?stretch, rfl, ?phase, ?lastClose, ?held, rfl, ?zones, rfl, ?pulse⟩
  case sample => exact runsUpTo_between ..
  case lines =>
    show _ → (s.bus.linesHigh || (s.bus.linesReleased && Config.linesRise s.freeIndex)) = s.bus.linesHigh
    rintro (h | h) <;> simp [h]
  case busIdle =>
    split
    · next counts =>
      rw [show s.timePasses.bus.idleTimer = runsUpTo .busIdle s.freeIndex 2000 s.bus.idleTimer from if_pos counts]
      exact runsUpTo_between ..
    · next stops => exact if_neg stops
  case busTotal =>
    simp only [State.timePasses, SideBus.timePasses]
    cases s.bus.slot with
    | empty => rfl
    | waiting r => exact runsUpTo_between ..
    | active r => exact runsUpTo_between ..
  case stretch =>
    simp only [State.timePasses, SideBus.timePasses]
    cases s.bus.slot with
    | empty => rfl
    | waiting r => rfl
    | active r => exact Nat.mod_lt _ (by decide)
  case phase =>
    simp only [State.timePasses, Engine.timePasses]
    cases s.engine.phase with
    | turnaround owed => exact ⟨_, rfl, runsDownTo1_between ..⟩
    | retry owed => exact ⟨_, rfl, runsDownTo1_between ..⟩
    | idle => rfl
    | window => rfl
    | data => rfl
  case lastClose =>
    simp only [State.timePasses, Engine.timePasses]
    cases s.engine.lastClose with
    | none => rfl
    | some c => exact ⟨_, rfl, Nat.le_add_right ..⟩
  case held =>
    simp only [State.timePasses, Engine.timePasses]
    cases s.engine.phase with
    | window => exact Nat.mod_lt _ (by decide)
    | data => exact Nat.mod_lt _ (by decide)
    | idle => rfl
    | turnaround owed => rfl
    | retry owed => rfl
  case zones =>
    intro z
    have counter := s.emission.timePasses_get s.freeIndex
    refine ⟨?_, ?_, fun z' together => ?_⟩
    · rw [show s.timePasses.emission.zones.get z = _ from counter z]
    · rw [show s.timePasses.emission.zones.get z = _ from counter z]
      exact runsUpTo_between ..
    · rw [show s.timePasses.emission.zones.get z = _ from counter z,
        show s.timePasses.emission.zones.get z' = _ from counter z']
      exact congrArg (runsUpTo .pwm s.freeIndex s.emission.period) together
  case pulse =>
    simp only [State.timePasses, Reports.timePasses]
    cases s.reports.pulse with
    | none => rfl
    | some left => exact ⟨_, rfl, runsDownTo1_between ..⟩

/-! ### A sample timer expiry (R27, R52) -/

/-- Settles O21: by whether a sample is due, and by whether the slot is EMPTY. -/
theorem sampleTimerExpiry : Obligations.SampleTimerExpiry := by
  intro s
  refine ⟨fun notDue => if_pos notDue, fun running outstanding empty => ?_, fun running outstanding filled => ?_⟩
  all_goals
    have due : ¬ (s.loader.running = true ∨ s.posture.outstanding = true) := by simp [running, outstanding]
    refine (if_neg due).trans ?_
  · simp only [State.request, SideBus.request, empty]
  · obtain ⟨empty, -⟩ | ⟨-, request⟩ :=
      s.bus.request_cases (.sensor s.posture.config.sensorAddress s.posture.config.sensorRegister)
    · exact absurd empty filled
    · simp only [State.request, request]

/-! ### FACE_SET (R39) -/

theorem Facing.ofCode?_code (facing : Facing) : Facing.ofCode? facing.code = some facing := by
  cases facing <;> rfl

theorem Facing.ofCode?_eq_none {n : Nat} (h : 2 ≤ n) : Facing.ofCode? n = none := by
  match n, h with
  | n + 2, _ => rfl

section

variable {code : Byte} {s : State} {facing : Facing} (hcode : facing.code = code.toNat)

include hcode

theorem faceSetAction_switched {new : Posture} (switch : facingSwitch s.posture.posture facing = some new) :
    faceSetAction [code] s =
      .done [] (State.adopt { s with posture := { s.posture with facing := facing } } new false true) := by
  simp only [faceSetAction, ← hcode, Facing.ofCode?_code, switch]

theorem faceSetAction_stored (switch : facingSwitch s.posture.posture facing = none) :
    faceSetAction [code] s = .done [] { s with posture := { s.posture with facing := facing } } := by
  simp only [faceSetAction, ← hcode, Facing.ofCode?_code, switch]

end

theorem facingSwitch_eq_none {p : Posture} {facing : Facing} (front : ¬ (p = .closedFront ∧ facing = .back))
    (back : ¬ (p = .closedBack ∧ facing = .front)) : facingSwitch p facing = none := by
  unfold facingSwitch
  split
  · exact absurd ⟨rfl, rfl⟩ front
  · exact absurd ⟨rfl, rfl⟩ back
  · rfl

/-- Settles O24: by the facing code, and by whether the posture is the closed one of the other facing. -/
theorem faceSetEffect : Obligations.FaceSetEffect := by
  intro s p rest code asked idle
  have done : ∀ {status data t}, faceSetAction [code] s = ⟨status, data, t⟩ → t.control = s.control →
      exec .faceSet s = .next (answered t p rest status data) := fun h queue =>
    congrArg Host.Outcome.next (carryOut_of_asks asked rfl (.inl idle) h queue)
  refine ⟨fun h2 => done ?_ rfl, fun facing hcode => ⟨fun front back => ?_, fun back front => ?_,
    fun notFront notBack => done (faceSetAction_stored hcode (facingSwitch_eq_none notFront notBack)) rfl⟩⟩
  · simp only [faceSetAction, Facing.ofCode?_eq_none h2, Reply.refuse]
  · exact done (faceSetAction_switched hcode (by rw [front, back]; rfl)) rfl
  · exact done (faceSetAction_switched hcode (by rw [back, front]; rfl)) rfl

/-! ### ANGLE_SET and ANGLE_CAL (R45 to R47) -/

theorem byteOf_toNat (b : Byte) : byteOf b.toNat = b := by
  simp [byteOf]

theorem wordBytes_be16 (hi lo : Byte) : wordBytes (be16 hi lo) = [hi, lo] := by
  simp only [wordBytes, byteOf, be16, List.cons.injEq, and_true]
  constructor <;> bv_omega

section

variable (rate k ce1 ce0 cx1 cx0 ox1 ox0 oe1 oe0 dwell address register : Byte)

/-- The tests of a set of angle values (R45). -/
def AnglePasses : Prop :=
  rate.toNat ≤ 3 ∧ be16 ce1 ce0 < be16 cx1 cx0 ∧ be16 cx1 cx0 ≤ be16 ox1 ox0 ∧ be16 ox1 ox0 < be16 oe1 oe0
    ∧ be16 oe1 oe0 ≤ 2048 ∧ address.toNat ≤ 127

/-- The values of a set as they are stored (R45). -/
def storedAngles : AngleConfig where
  rate := rate.toNat
  k := min k.toNat 5
  thresholds := ⟨be16 ce1 ce0, be16 cx1 cx0, be16 ox1 ox0, be16 oe1 oe0⟩
  dwell := if dwell = 0 then 1 else dwell.toNat
  sensorAddress := BitVec.ofNat 7 address.toNat
  sensorRegister := register

theorem parseAngleConfig_passed (passes : AnglePasses rate ce1 ce0 cx1 cx0 ox1 ox0 oe1 oe0 address) :
    parseAngleConfig [rate, k, ce1, ce0, cx1, cx0, ox1, ox0, oe1, oe0, dwell, address, register] =
      some (storedAngles rate k ce1 ce0 cx1 cx0 ox1 ox0 oe1 oe0 dwell address register) := by
  obtain ⟨hrate, enter, middle, leave, top, haddress⟩ := passes
  have hdwell : max dwell.toNat 1 = if dwell = 0 then 1 else dwell.toNat := by
    split
    · next h => rw [h]; rfl
    · next h => bv_omega
  have third : be16 ox1 ox0 ≤ 2048 := leave.le.trans top
  have second : be16 cx1 cx0 ≤ 2048 := middle.trans third
  have first : be16 ce1 ce0 ≤ 2048 := enter.le.trans second
  refine (if_pos ⟨hrate, first, second, third, top, enter, middle, leave, haddress⟩).trans ?_
  simp only [storedAngles, hdwell, BitVec.ofNat_toNat]

theorem parseAngleConfig_failed (fails : ¬ AnglePasses rate ce1 ce0 cx1 cx0 ox1 ox0 oe1 oe0 address) :
    parseAngleConfig [rate, k, ce1, ce0, cx1, cx0, ox1, ox0, oe1, oe0, dwell, address, register] = none :=
  if_neg fun ⟨hrate, _, _, _, top, enter, middle, leave, haddress⟩ =>
    fails ⟨hrate, enter, middle, leave, top, haddress⟩

/-- The RESP carries the values as stored (R45). -/
theorem storedAngles_bytes (haddress : address.toNat ≤ 127) :
    (storedAngles rate k ce1 ce0 cx1 cx0 ox1 ox0 oe1 oe0 dwell address register).bytes =
      [rate, if 5 < k.toNat then 5 else k, ce1, ce0, cx1, cx0, ox1, ox0, oe1, oe0, if dwell = 0 then 1 else dwell,
        address, register] := by
  have hk : byteOf (min k.toNat 5) = if 5 < k.toNat then 5 else k := by
    split
    · next h => rw [Nat.min_eq_right h.le]; rfl
    · next h => rw [Nat.min_eq_left (Nat.not_lt.mp h), byteOf_toNat]
  have hdwell : byteOf (if dwell = 0 then 1 else dwell.toNat) = if dwell = 0 then 1 else dwell := by
    split
    · rfl
    · exact byteOf_toNat dwell
  have hseven : (BitVec.ofNat 7 address.toNat).zeroExtend 8 = address := by
    apply BitVec.eq_of_toNat_eq
    simp only [BitVec.zeroExtend, BitVec.toNat_setWidth, BitVec.toNat_ofNat]
    omega
  simp only [AngleConfig.bytes, storedAngles, byteOf_toNat, wordBytes_be16, hk, hdwell, hseven]
  rfl

end

/-- A signed value in two's complement (R172). -/
theorem signed16_eq (hi lo : Byte) :
    signed16 hi lo = if (hi.toNat * 256 + lo.toNat : Int) < 32768 then (hi.toNat * 256 + lo.toNat : Int)
      else (hi.toNat * 256 + lo.toNat : Int) - 65536 := by
  have unsigned : (hi ++ lo).toNat = hi.toNat * 256 + lo.toNat := by
    rw [BitVec.toNat_append, ← Nat.shiftLeft_add_eq_or_of_lt lo.isLt, Nat.shiftLeft_eq]
  rw [signed16, BitVec.toInt_eq_toNat_cond, unsigned]
  push_cast
  split_ifs <;> omega

/-- Settles O25: by whether the set passes its tests, and by the range of the offset. -/
theorem angleCommands : Obligations.AngleCommands := by
  constructor
  · intro s p rest rate k ce1 ce0 cx1 cx0 ox1 ox0 oe1 oe0 dwell address register asked idle
    refine ⟨fun fails => ?_, fun passes => ?_⟩
    · refine congrArg Host.Outcome.next (carryOut_of_asks_refused asked rfl (.inl idle) ?_)
      simp only [angleSetAction,
        parseAngleConfig_failed rate k ce1 ce0 cx1 cx0 ox1 ox0 oe1 oe0 dwell address register fails]
    · have ⟨_, _, _, _, _, haddress⟩ := passes
      refine congrArg Host.Outcome.next (carryOut_of_asks asked rfl (.inl idle) ?_ rfl)
      simp only [angleSetAction,
        parseAngleConfig_passed rate k ce1 ce0 cx1 cx0 ox1 ox0 oe1 oe0 dwell address register passes,
        Reply.done, storedAngles_bytes _ _ _ _ _ _ _ _ _ _ _ _ _ haddress]
      rfl
  · intro s p rest hi lo asked idle unsigned offset
    have hoffset : signed16 hi lo = offset := signed16_eq hi lo
    refine ⟨fun low high => ?_, fun outside => ?_⟩
    · refine congrArg Host.Outcome.next (carryOut_of_asks asked rfl (.inl idle) ?_ rfl)
      simp only [angleCalAction, parseOffset, hoffset, low, high, and_self, if_true, Reply.done]
    · refine congrArg Host.Outcome.next (carryOut_of_asks_refused asked rfl (.inl idle) ?_)
      have fails : ¬ (-2048 ≤ offset ∧ offset ≤ 2047) := by omega
      simp only [angleCalAction, parseOffset, hoffset, fails, if_false]

end Sys2Proof.Machine
end

section
/-! A completed sensor read is a good sample: the values that stages 1 to 6 compute, and what the class of the sample
leads to (R28 to R44, R54). -/

namespace Sys2Proof.Machine

open Sys2Proof.Safety

/-- A completed read changes the side bus and what has been sent, and nothing else. -/
theorem readDone_eq (s : State) (r : Request) (received : List Byte) (lateLoss : Bool) :
    readDone s r received lateLoss =
      { s with
        bus := (readDone s r received lateLoss).bus, outside := (readDone s r received lateLoss).outside } := by
  cases lateLoss <;> rfl

/-- The completion of a sensor read hands a good sample to the posture unit (R54). -/
theorem exec_sensorReadComplete {s : State} {device : BitVec 7} {register : Byte}
    (active : s.bus.slot = .active (.sensor device register)) (first second : Byte) (lateLoss : Bool) :
    exec (.sensorReadComplete first second lateLoss) s =
      .next ((readDone s (.sensor device register) [first, second] lateLoss).goodSample first second) := by
  simp only [exec, execSensorReadComplete, active, State.completeRead_eq]

/-- The posture unit after a good sample: stages 1 to 6, and the classification. -/
theorem State.goodSample_posture (s : State) (first second : Byte) :
    (s.goodSample first second).posture =
      { s.posture.sampled (rawCode first second) s.gain.foldPt s.gain.flatPt with
        posture := (s.goodSample first second).posture.posture
        candidate := (s.goodSample first second).posture.candidate
        dwellCount := (s.goodSample first second).posture.dwellCount } := by
  rw [s.goodSample_eq]
  exact State.classifySample_posture _

/-- Settles O22: the posture unit by its stages, the rest by the frame of a good sample. -/
theorem goodSampleAngles : Obligations.GoodSampleAngles := by
  intro s device register first second lateLoss active raw c a y f span w done
  have hy : s.posture.nextY raw = y := by
    simp only [y, PostureUnit.nextY]
    cases s.posture.sensorLost <;> cases s.posture.y <;> rfl
  have hdone : done = { s with bus := done.bus, outside := done.outside } := readDone_eq ..
  obtain ⟨store, bus, intake, mapper, gain, engine, emission, guard, control, loader, outside, freeIndex, pending⟩ :=
    done.goodSample_frame first second
  refine ⟨done.goodSample first second, exec_sensorReadComplete active first second lateLoss, ?_, bus, outside, ?_⟩
  · refine (done.goodSample_posture first second).trans ?_
    rw [show done.posture = s.posture by rw [hdone], show done.gain = s.gain by rw [hdone]]
    simp only [PostureUnit.sampled, show rawCode first second = raw from rfl, hy]
    rfl
  · rw [store, intake, gain, engine, emission, guard, control, loader, freeIndex, pending, mapper, hdone]
    exact ⟨rfl, rfl, rfl, rfl, rfl, rfl, rfl, rfl, rfl, rfl, rfl⟩

/-- What the classification of a sample finds: the part before the sample, but for the angles and the report of a
recovered sensor. -/
structure Classified (s v : State) : Prop where
  posture : v.posture.posture = s.posture.posture
  config : v.posture.config = s.posture.config
  facing : v.posture.facing = s.posture.facing
  candidate : v.posture.candidate = s.posture.candidate
  dwellCount : v.posture.dwellCount = s.posture.dwellCount
  reports : v.reports = s.reportsAfterRecovery v.posture.f
  guard : v.guard = s.guard
  mapper : v.mapper = s.mapper

/-- A completed sensor read is the classification of a sample. -/
theorem sensorReadComplete_classifies {s t : State} {device : BitVec 7} {register first second : Byte} {lateLoss : Bool}
    (active : s.bus.slot = .active (.sensor device register))
    (answer : exec (.sensorReadComplete first second lateLoss) s = .next t) :
    ∃ v, Classified s v ∧ t = v.classifySample := by
  rw [exec_sensorReadComplete active, State.goodSample_eq] at answer
  cases answer
  exact ⟨_, by cases lateLoss <;> exact ⟨rfl, rfl, rfl, rfl, rfl, rfl, rfl, rfl⟩, rfl⟩

theorem State.classifySample_f (s : State) : s.classifySample.posture.f = s.posture.f := by
  rw [s.classifySample_posture]

/-- Settles O23: by the cases of the classification of what stages 1 to 6 leave. -/
theorem goodSampleAdoption : Obligations.GoodSampleAdoption := by
  intro s t device register first second lateLoss active answer
  obtain ⟨v, ⟨posture, config, facing, candidate, dwellCount, reports, guard, mapper⟩, rfl⟩ :=
    sensorReadComplete_classifies active answer
  intro f th old cls new same count back adopted held
  have hf : f = v.posture.f := v.classifySample_f
  have hold : v.posture.posture = old := posture
  have hcls : v.posture.sampleClass = cls := by
    simp only [PostureUnit.sampleClass, classify, hold, config, cls, hf]
    rfl
  have hnew : v.posture.sampleClass.posture v.posture.facing = new := by
    rw [hcls, facing]
    simp only [new]
    cases cls <;> cases s.posture.facing <;> rfl
  have hsame : same = true ↔ v.posture.posture.class? = some v.posture.sampleClass := by
    rw [hcls, hold]
    simp only [same]
    generalize old = p
    generalize cls = c
    cases p <;> cases c <;> decide
  have hcount : v.posture.nextCount v.posture.sampleClass = count := by
    rw [PostureUnit.nextCount, hcls, candidate, dwellCount]
  have hback : v.reports = back := by rw [reports, ← hf]; rfl
  have hother : same = false → v.posture.posture.class? ≠ some v.posture.sampleClass := fun other h => by
    rw [hsame.mpr h] at other
    cases other
  have adopts : ∀ initial, v.classifySample = v.adopt (v.posture.sampleClass.posture v.posture.facing) initial false →
      adopted initial := by
    intro initial heq
    rw [hnew] at heq
    refine ⟨by rw [heq]; rfl, by rw [heq]; rfl, by rw [heq]; rfl, ?_, by rw [heq, ← mapper]; rfl⟩
    rw [heq, ← hback, ← guard, hf, ← hold]
    rfl
  refine ⟨fun unset => adopts true (State.classifySample_unset (hold.trans unset)), fun sameClass => ?_,
    fun set other reached => ?_, fun set other below => ?_⟩
  · have heq := State.classifySample_sameClass (hsame.mp sameClass)
    refine ⟨by rw [heq]; exact hold, by rw [heq], by rw [heq], by rw [heq]; exact hback, by rw [heq, ← mapper]⟩
  · refine adopts false (State.classifySample_adopted (hold ▸ set) (hother other) ?_)
    rw [hcount, config]
    exact reached
  · have heq := State.classifySample_counted (hold ▸ set) (hother other) (by rw [hcount, config]; exact below)
    rw [hcls] at heq hcount
    refine ⟨by rw [heq]; exact hold, by rw [heq], by rw [heq]; exact hcount, by rw [heq]; exact hback,
      by rw [heq, ← mapper]⟩

end Sys2Proof.Machine
end

section
/-! The three aborts of a side bus read, and what each requester makes of the failure (R41, R59 to R62, R185). -/

namespace Sys2Proof.Machine

open Sys2Proof.Safety

/-! ### What an abort leaves on the lines (R59 to R61) -/

section

variable {s : State} {r : Request}

/-- A NACK comes where the FL420 expects an acknowledge, and ends in a stop condition (R59). -/
theorem exec_nackAbort_active (active : s.bus.slot = .active r) :
    ∃ n ∈ acknowledgesExpected r, exec .nackAbort s =
      .next ((brokenOff s ((requestSymbols r).take n ++ [.stop]) .free true).deliverFailure r) := by
  obtain ⟨n, hn, refused⟩ := r.refusedAt_eq_take (Config.symbolsSent s.freeIndex)
  refine ⟨n, hn, ?_⟩
  simp only [exec, execNackAbort, active, State.abort, State.breakOff_endTransaction, refused]
  rfl

/-- The timeouts of an ACTIVE transaction break it off short of its end: one amount sent for all of them (R60, R61). -/
theorem exec_timeouts_active (active : s.bus.slot = .active r) :
    ∃ n < (requestSymbols r).length,
      exec .stretchTimeout s =
          .next ((brokenOff s ((requestSymbols r).take n) .busy false).deliverFailure r)
        ∧ exec (.totalTimeout false) s =
          .next ((brokenOff s ((requestSymbols r).take n ++ [.stop]) .free true).deliverFailure r)
        ∧ exec (.totalTimeout true) s =
          .next ((brokenOff s ((requestSymbols r).take n) .busy false).deliverFailure r) := by
  obtain ⟨n, hn, part⟩ := partOf_eq_take (requestSymbols r) (Config.symbolsSent s.freeIndex) (requestSymbols_ne_nil r)
  refine ⟨n, hn, ?_, ?_, ?_⟩
  · simp only [exec, execStretchTimeout, active, State.abort, State.breakOff_endTransaction, Request.sequence_eq, part]
    rfl
  · simp only [exec, execTotalTimeout, active, State.abort, State.breakOff_endTransaction, Request.sequence_eq, part]
    rfl
  · simp only [exec, execTotalTimeout, active, State.abort, State.breakOff_endTransaction, Request.sequence_eq, part]
    rfl

/-- A total timeout in WAITING leaves the bus as it was (R61). -/
theorem exec_totalTimeout_waiting (waiting : s.bus.slot = .waiting r) (low : Bool) :
    exec (.totalTimeout low) s =
      .next (State.deliverFailure { s with bus := handedOn s.bus [] s.bus.state s.bus.linesHigh } r) := by
  simp only [exec, execTotalTimeout, waiting, State.abort, State.endTransaction_eq]

end

/-! ### What the requester makes of it (R41, R62) -/

/-- A RUNNING loader ends its run with BUS_FAULT (R62, R185). -/
theorem State.loaderFails_eq {s : State} (running : s.loader.running = true) :
    s.loaderFails = s.endRun .busFault s.loader.busFaultAddress := if_pos running

/-- An abort, whichever fault it comes from, has the effect that the requester gives the failure (R59 to R62). -/
theorem aborts_of_delivered {s : State} {r : Request} {failed : State → State}
    (delivered : ∀ t : State, t.posture = s.posture → t.reports = s.reports → t.guard = s.guard →
      t.loader = s.loader → t.deliverFailure r = failed t) :
    (s.bus.slot = .active r →
      (∃ n ∈ acknowledgesExpected r, exec .nackAbort s =
        .next (failed (brokenOff s ((requestSymbols r).take n ++ [.stop]) .free true)))
      ∧ ∃ n < (requestSymbols r).length,
        exec .stretchTimeout s = .next (failed (brokenOff s ((requestSymbols r).take n) .busy false))
        ∧ exec (.totalTimeout false) s =
          .next (failed (brokenOff s ((requestSymbols r).take n ++ [.stop]) .free true))
        ∧ exec (.totalTimeout true) s = .next (failed (brokenOff s ((requestSymbols r).take n) .busy false)))
    ∧ (s.bus.slot = .waiting r → ∀ low : Bool, exec (.totalTimeout low) s =
        .next (failed { s with bus := handedOn s.bus [] s.bus.state s.bus.linesHigh })) := by
  have broken : ∀ symbols after high,
      (brokenOff s symbols after high).deliverFailure r = failed (brokenOff s symbols after high) :=
    fun _ _ _ => delivered _ rfl rfl rfl rfl
  refine ⟨fun active => ⟨?_, ?_⟩, fun waiting low => ?_⟩
  · obtain ⟨n, hn, nack⟩ := exec_nackAbort_active active
    exact ⟨n, hn, broken .. ▸ nack⟩
  · obtain ⟨n, hn, stretch, total, totalLow⟩ := exec_timeouts_active active
    exact ⟨n, hn, broken .. ▸ stretch, broken .. ▸ total, broken .. ▸ totalLow⟩
  · exact (exec_totalTimeout_waiting waiting low).trans (congrArg _ (delivered _ rfl rfl rfl rfl))

/-- Settles O29: each abort delivers a failed sample. -/
theorem abortedSensorRead : Obligations.AbortedSensorRead := by
  intro s device register symbols failed
  refine aborts_of_delivered fun t posture reports guard _ => t.failedSample_eq.trans ?_
  simp only [failed, ← posture, ← reports, ← guard]

/-- Settles O30: each abort ends the loader's run. -/
theorem abortedNvmRead : Obligations.AbortedNvmRead := by
  intro s address count running symbols failed
  refine aborts_of_delivered fun t posture reports guard loader =>
    (State.loaderFails_eq (loader ▸ running)).trans ?_
  simp only [failed, ← posture, ← reports, ← guard, ← loader]
  rfl

end Sys2Proof.Machine
end

section
/-! The side bus: what the lines do to its state, and how an attempt starts and is lost (R50 to R58). -/

namespace Sys2Proof.Machine

open Sys2Proof.Safety

/-- A lost arbitration breaks the attempt off within the opening, and the same request waits again (R57). -/
theorem exec_arbitrationLost_active {s : State} {r : Request} (active : s.bus.slot = .active r) :
    ∃ n < contestedSymbols r, exec .arbitrationLost s = .next { sent s ((requestSymbols r).take n) with
      bus := { s.bus with
        slot := .waiting r, state := .busy, linesHigh := false, linesReleased := true, stretchTimer := 0
        received := [] }
      freeIndex := s.freeIndex + 1 } := by
  obtain ⟨n, hn, part⟩ := r.partOf_opening (Config.symbolsSent s.freeIndex)
  refine ⟨n, hn, ?_⟩
  simp only [exec, execArbitrationLost, active, State.breakOff, part]
  rfl

/-- No attempt starts without a request in WAITING and a FREE bus (R52, log 2). -/
theorem exec_transactionStart_of_not_due {s : State} (notDue : s.bus.slot = .empty ∨ s.bus.state = .busy) :
    exec .transactionStart s = .next s := by
  rcases notDue with empty | busy
  · simp only [exec, execTransactionStart, empty]
  · cases slot : s.bus.slot <;> simp only [exec, execTransactionStart, slot, busy]

/-- Settles O28: the line events by their definitions, the rest by what the slot holds. -/
theorem busWatchingAndAttempts : Obligations.BusWatchingAndAttempts := by
  refine ⟨fun s => ⟨rfl, rfl, rfl, rfl⟩, fun s r waiting free => ?start, fun s r => exec_arbitrationLost_active,
    fun s idle => ?idle⟩
  case start =>
    simp only [exec, execTransactionStart, waiting, free]
    rfl
  case idle =>
    have unaffected : exec .arbitrationLost s = .next s ∧ exec .nackAbort s = .next s
        ∧ exec .stretchTimeout s = .next s
        ∧ (∀ first second lateLoss, exec (.sensorReadComplete first second lateLoss) s = .next s)
        ∧ ∀ bytes lateLoss, exec (.nvmReadComplete bytes lateLoss) s = .next s := by
      cases slot : s.bus.slot with
      | active r => exact absurd slot (idle r)
      | empty | waiting =>
        simp only [exec, execArbitrationLost, execNackAbort, execStretchTimeout, execSensorReadComplete,
          execNvmReadComplete, slot, implies_true, and_self]
    obtain ⟨lost, nack, stretch, sensor, nvm⟩ := unaffected
    exact ⟨lost, nack, stretch, sensor, nvm, exec_transactionStart_of_not_due⟩

end Sys2Proof.Machine
end

section
/-! RESET and SOFT_RESET: what the part sends in a phase or a transaction cut short, and the values that every block
takes (R51, R80, R139, R154, R169, R180). -/

namespace Sys2Proof.Machine

open Sys2Proof.Safety

/-! ### A run cut short (R139, log 12) -/

theorem State.runPixels_length (s : State) (r : Run) (pairs : Nat) : (s.runPixels r pairs).length = 2 * pairs := by
  simp [State.runPixels]

theorem State.runPixels_getElem? (s : State) (r : Run) (pairs : Nat) {i : Nat}
    (h : i < (s.runPixels r pairs).length) : (s.runPixels r pairs)[i]? = some (s.runPixel r i) := by
  rw [s.runPixels_length] at h
  simp [State.runPixels, h]

/-- Only what the panel bus has carried, and the use of a free value, tell that a reset has stopped a run. -/
theorem State.abandonTransfer_eq (s : State) :
    s.abandonTransfer =
      { s with
        outside := { s.outside with panelBus := s.abandonTransfer.outside.panelBus }
        freeIndex := s.abandonTransfer.freeIndex } := by
  unfold State.abandonTransfer
  split <;> rfl

/-- A run stopped in DATA has sent fewer than all of its pairs. -/
theorem State.abandonTransfer_of_data {s : State} {r : Run} (data : s.engine.phase = .data)
    (run : s.engine.inTransfer = some r) (least : 2 ≤ r.count) :
    ∃ pairs < r.count / 2, s.abandonTransfer.outside.panelBus =
      s.outside.panelBus ++ [.pixels r.driver r.row r.firstCol (s.runPixels r pairs)] := by
  refine ⟨Config.pairsSentAtReset s.freeIndex % r.pairs, Nat.mod_lt _ (Nat.div_pos least (by decide)), ?_⟩
  simp only [State.abandonTransfer, data, run]
  rfl

theorem State.abandonTransfer_of_not_data {s : State} (h : s.engine.phase ≠ .data ∨ s.engine.inTransfer = none) :
    s.abandonTransfer = s := by
  unfold State.abandonTransfer
  split
  · next data run => simp [data, run] at h
  · rfl

/-! ### A transaction cut short (R51, log 20) -/

/-- Only what has been sent on the side bus, and the use of a free value, tell that a reset has abandoned a
transaction. -/
theorem State.abandonTransaction_eq (s : State) :
    s.abandonTransaction =
      { s with
        outside := { s.outside with sideBus := s.abandonTransaction.outside.sideBus }
        freeIndex := s.abandonTransaction.freeIndex } := by
  unfold State.abandonTransaction
  split <;> rfl

/-- An abandoned transaction has sent a beginning of its sequence, and no stop condition. -/
theorem State.abandonTransaction_of_active {s : State} {r : Request} (active : s.bus.slot = .active r) :
    ∃ n ≤ (requestSymbols r).length,
      s.abandonTransaction.outside.sideBus = s.outside.sideBus ++ (requestSymbols r).take n := by
  refine ⟨Config.symbolsSent s.freeIndex % ((requestSymbols r).length + 1),
    Nat.le_of_lt_succ (Nat.mod_lt _ (Nat.succ_pos _)), ?_⟩
  simp only [State.abandonTransaction, active, Request.sequence_eq]
  rfl

theorem State.abandonTransaction_of_idle {s : State} (idle : ∀ r, s.bus.slot ≠ .active r) :
    s.abandonTransaction = s := by
  unfold State.abandonTransaction
  split
  · next r active => exact absurd active (idle r)
  all_goals rfl

/-! ### The part after a reset (R80, R154, R180) -/

/-- Everything stopped and everything at its reset value, before ESTOP acts. -/
def State.resetBlocks (s : State) : State :=
  { State.reset with
    loader := Loader.resetValue s.outside.nvszHigh
    outside := { s.outside with
      panelBus := s.abandonTransfer.outside.panelBus
      sideBus := s.abandonTransfer.abandonTransaction.outside.sideBus }
    freeIndex := s.abandonTransfer.abandonTransaction.freeIndex
    pending := s.pending }

theorem State.resetPart_eq (s : State) : s.resetPart = s.resetBlocks.estopActs := by
  have stopped : s.abandonTransfer.abandonTransaction =
      { s with
        outside := { s.outside with
          panelBus := s.abandonTransfer.outside.panelBus
          sideBus := s.abandonTransfer.abandonTransaction.outside.sideBus }
        freeIndex := s.abandonTransfer.abandonTransaction.freeIndex } := by
    rw [State.abandonTransaction_eq, s.abandonTransfer_eq]
  unfold State.resetPart
  rw [stopped]
  rfl

/-- ESTOP acts on the emission unit and on the report queue alone (R149). -/
theorem State.estopActs_eq (s : State) :
    s.estopActs = { s with emission := s.estopActs.emission, reports := s.estopActs.reports } := by
  unfold State.estopActs
  split <;> rfl

/-- What a reset gives every block, whatever the level of ESTOP (R80). -/
theorem State.resetPart_frame (s : State) :
    s.resetPart = { s.resetBlocks with emission := s.resetPart.emission, reports := s.resetPart.reports } := by
  rw [s.resetPart_eq]
  exact s.resetBlocks.estopActs_eq

/-- With ESTOP inactive nothing is reported. -/
theorem State.resetBlocks_estopActs_inactive {s : State} (inactive : s.outside.estop = false) :
    s.resetBlocks.estopActs = s.resetBlocks := by
  simp [State.estopActs, State.resetBlocks, inactive]

/-- With ESTOP active the latch is set, and the FAULT record is the one record held (R149, R154). -/
theorem State.resetBlocks_estopActs_active {s : State} (active : s.outside.estop = true) :
    s.resetBlocks.estopActs =
      { s.resetBlocks with
        emission := { State.reset.emission with latch := true }
        reports := { State.reset.reports with records := [⟨.fault .estop .front 0 0, false, 0⟩] } } := by
  have acts : s.resetBlocks.outside.estop = true ∧ s.resetBlocks.emission.latch = false := ⟨active, rfl⟩
  unfold State.estopActs
  rw [if_pos acts]
  rfl

/-! ### SOFT_RESET (R169) -/

theorem State.respond_of_asks {s : State} {p : Packet} {rest : List Packet} {code : Byte} {operands : List Byte}
    (asked : Asks s p rest code operands) (status : Status) (data : List Byte) :
    s.respond status data = answered s p rest status data := by
  simp only [State.respond, asked.head, answered]

/-- A SOFT_RESET that has its turn sends its RESP, and is then a RESET (R169). -/
theorem exec_softReset_of_asks {s : State} {p : Packet} {rest : List Packet} (asked : Asks s p rest 0x71 [])
    (idle : s.loader.running = false) : exec .softReset s = exec .reset (answered s p rest .ok []) := by
  have granted : s.turn 0x71 (lengthIs 0) false = .granted [] := by
    simp [State.turn, asked.head, asked.codeIs, asked.operandsAre, asked.countIs, lengthIs, idle]
  simp only [exec, execSoftReset, granted, execReset, State.respond_of_asks asked]

/-- Settles O4: every block from the state before ESTOP acts, what has left the part from the two ends, and then the two
levels of ESTOP. -/
theorem resetsGiveResetValues : Obligations.ResetsGiveResetValues := by
  refine ⟨fun s => ⟨s.resetPart, rfl, ?reset⟩, fun s p rest asked idle =>
    ⟨(answered s p rest .ok []).resetPart, exec_softReset_of_asks asked idle, rfl, ?soft⟩⟩
  case soft =>
    rw [State.resetPart_frame]
    exact ⟨rfl, rfl⟩
  case reset =>
    have bus : s.abandonTransfer.bus = s.bus := by rw [s.abandonTransfer_eq]
    have sideBus : s.abandonTransfer.outside.sideBus = s.outside.sideBus := by rw [s.abandonTransfer_eq]
    rw [s.resetPart_frame]
    refine ⟨rfl, rfl, rfl, rfl, rfl, rfl, rfl, rfl, rfl, rfl, rfl, rfl, fun r data run least => ?_, fun still => ?_,
      fun r active => ?_, fun idle => ?_, fun still idle => ?_, fun inactive => ?_, fun active => ?_⟩
    · obtain ⟨pairs, few, carried⟩ := State.abandonTransfer_of_data data run least
      exact ⟨s.runPixels r pairs, ⟨pairs, few, s.runPixels_length r pairs⟩,
        fun i hi => s.runPixels_getElem? r pairs hi, carried⟩
    · exact congrArg (·.outside.panelBus) (State.abandonTransfer_of_not_data still)
    · rw [← sideBus]
      exact State.abandonTransaction_of_active (bus ▸ active)
    · rw [← sideBus]
      exact congrArg (·.outside.sideBus) (State.abandonTransaction_of_idle (bus ▸ idle))
    · show s.abandonTransfer.abandonTransaction.freeIndex = s.freeIndex
      rw [State.abandonTransfer_of_not_data (.inl still), State.abandonTransaction_of_idle idle]
    · rw [s.resetPart_eq, State.resetBlocks_estopActs_inactive inactive]
      exact ⟨rfl, rfl⟩
    · rw [s.resetPart_eq, State.resetBlocks_estopActs_active active]
      exact ⟨rfl, rfl⟩

end Sys2Proof.Machine
end

section
/-! The loader's walk through the image: the next read or the end of the run that each completed read leads to (R181,
R182, R185). -/

namespace Sys2Proof.Machine

open Sys2Proof.Safety

/-! ### The next read, and the end of a run -/

/-- The loader, with these registers, waits for its next NVM read (R52, R181). -/
def State.readsNext (t : State) (i start n : Nat) (loader : Loader) : State :=
  { t with bus := { t.bus with slot := .waiting (.nvm start n) }, loader := loader, freeIndex := i }

/-- The loader's run, with these registers, has ended: a LOADER record is offered and the posture unit restarts (R48,
R185). -/
def State.runEnded (t : State) (i : Nat) (outcome : LoadOutcome) (reached : Nat) (loader : Loader) : State :=
  { t with
    loader := { loader with lastOutcome := outcome, running := false, phase := .idle }
    reports := t.reports.offer t.guard.tick (.loader outcome loader.applied loader.failed reached)
    posture := { t.posture with posture := .unset, y := none, candidate := none, dwellCount := 0 }
    freeIndex := i }

theorem State.withLoader_endRun (t : State) (l : Loader) (i : Nat) (outcome : LoadOutcome) (address : Nat) :
    (t.withLoader l i).endRun outcome address = t.runEnded i outcome address l := rfl

/-- The slot is EMPTY, with its stopped timer at 0 (log 17). -/
structure SlotFree (t : State) : Prop where
  slot : t.bus.slot = .empty
  totalTimer : t.bus.totalTimer = 0

theorem SlotFree.applySection {t : State} (free : SlotFree t) (kind : Byte) (body : List Byte) :
    SlotFree (t.applySection kind body).2 := by
  have bus := (t.applySection_frame kind body).bus
  exact ⟨bus ▸ free.slot, bus ▸ free.totalTimer⟩

/-- In a free slot the next read of the loader waits at once (R52). -/
theorem SlotFree.request {t : State} (free : SlotFree t) (l : Loader) (i start n : Nat) :
    (t.withLoader l i).request (.nvm start n) = t.readsNext i start n l := by
  simp only [State.request, State.withLoader, SideBus.request, free.slot, State.readsNext]
  rw [← free.totalTimer]

/-! ### The address registers (R181, log 11) -/

/-- What an address register holds for an address, with free values used from index k up to index i: the address, unless
it lies past 65535. -/
def HoldsFrom (k address x i : Nat) : Prop := x ≤ 65535 ∧ k ≤ i ∧ (address ≤ 65535 → x = address ∧ i = k)

theorem holdsFrom_storedAddress (k address : Nat) :
    HoldsFrom k address (storedAddress k address) (if address ≤ 65535 then k else k + 1) := by
  unfold HoldsFrom storedAddress
  split
  · next low => exact ⟨low, le_rfl, fun _ => ⟨rfl, rfl⟩⟩
  · next high => exact ⟨by omega, Nat.le_succ k, fun low => absurd low high⟩

/-- A second register, for an address not below the first. -/
theorem HoldsFrom.trans {k address x i address' x' i' : Nat} (first : HoldsFrom k address x i)
    (second : HoldsFrom i address' x' i') (h : address ≤ address') : HoldsFrom k address' x' i' := by
  obtain ⟨-, hi, low⟩ := first
  obtain ⟨hx', hi', low'⟩ := second
  refine ⟨hx', hi.trans hi', fun h' => ?_⟩
  exact ⟨(low' h').1, (low' h').2.trans (low (h.trans h')).2⟩

/-- The cursor moves to an address (R181). -/
theorem State.withLoader_moveCursor (t : State) (l : Loader) (k address : Nat) :
    ∃ x i, HoldsFrom k address x i ∧ (t.withLoader l k).moveCursor address = t.withLoader { l with cursor := x } i :=
  ⟨_, _, holdsFrom_storedAddress k address, rfl⟩

/-! ### The next section (R181) -/

/-- The loader, with these registers, goes on to the section at `next`: to the read of its header, or to the end of the
run where the header's last byte lies beyond the address limit. -/
def ToSection (t v : State) (k : Nat) (loader : Loader) (next : Nat) : Prop :=
  ∃ x i, HoldsFrom k next x i
    ∧ (next + 3 ≤ loader.limit →
      v = t.readsNext i next 4 { loader with cursor := next, sectionStart := next, phase := .header })
    ∧ (loader.limit < next + 3 → v = t.runEnded i .overflow x { loader with cursor := x, sectionStart := x })

/-- The cursor has moved before, to an address not past the section's: it moves again. -/
theorem ToSection.after_moveCursor {t v : State} {k address x i next : Nat} {loader : Loader}
    (moved : HoldsFrom k address x i) (h : address ≤ next)
    (starts : ToSection t v i { loader with cursor := x } next) : ToSection t v k loader next := by
  obtain ⟨y, j, held, leads⟩ := starts
  exact ⟨y, j, moved.trans held h, leads⟩

theorem SlotFree.beginSection {t : State} (free : SlotFree t) (l : Loader) (top : l.limit ≤ 65535) (k next : Nat) :
    ToSection t ((t.withLoader l k).beginSection next) k l next := by
  obtain ⟨x, i, held, moved⟩ := t.withLoader_moveCursor l k next
  unfold State.beginSection
  rw [moved]
  refine ⟨x, i, held, fun within => ?_, fun beyond => if_pos beyond⟩
  obtain ⟨-, -, low⟩ := held
  obtain ⟨rfl, rfl⟩ := low (by omega)
  exact (if_neg (Nat.not_lt.mpr within)).trans (free.request _ i _ 4)

/-- A section is applied, whatever the loader's registers, and counted, and the next one starts (R182). -/
theorem State.withLoader_finishSection (t : State) (l : Loader) (k : Nat) (kind : Byte) (body : List Byte)
    (next : Nat) :
    (t.withLoader l k).finishSection kind body next =
      ((t.applySection kind body).2.withLoader (l.countSection (t.applySection kind body).1) k).beginSection next := by
  unfold State.finishSection
  rw [State.applySection_withLoader]
  rfl

theorem Loader.countSection_eq (l : Loader) (ok : Bool) :
    l.countSection ok =
      { l with
        applied := if ok = true then l.applied + 1 else l.applied
        failed := if ok = true then l.failed else l.failed + 1
        failureNoted := !ok || l.failureNoted } := by
  cases ok <;> rfl

/-- A known kind of length 0 fits no length that the table requires, so it fails and changes nothing (R182). -/
theorem State.applySection_nil (t : State) (kind : Byte) : t.applySection kind [] = (false, t) := by
  refine if_neg ?_
  unfold sectionFits
  split <;> simp

theorem SlotFree.finishSection {t : State} (free : SlotFree t) (l : Loader) (top : l.limit ≤ 65535) (k : Nat)
    (kind : Byte) (body : List Byte) (next : Nat) :
    ToSection (t.applySection kind body).2 ((t.withLoader l k).finishSection kind body next) k
      (l.countSection (t.applySection kind body).1) next := by
  rw [t.withLoader_finishSection]
  exact (free.applySection kind body).beginSection _ (by rwa [Loader.countSection_eq]) k next

theorem SlotFree.readBody {t : State} (free : SlotFree t) (l : Loader) (k : Nat) (kind : Byte) (length : Nat)
    (got : List Byte) :
    (t.withLoader l k).readBody kind length got =
      t.readsNext k l.cursor (min 64 (length - got.length)) { l with phase := .body kind length got } :=
  free.request _ k _ _

/-! ### The tests of a header, in their order (R181) -/

theorem knownKind_iff (kind : Byte) : knownKind kind = true ↔ 1 ≤ kind.toNat ∧ kind.toNat ≤ 7 := decide_eq_true_iff

theorem ne_zero_of_one_le_toNat {kind : Byte} (h : 1 ≤ kind.toNat) : kind ≠ 0 := by
  rintro rfl
  exact absurd h (by decide)

section

variable {t : State} {l : Loader} {i next : Nat} {marker kind hi lo : Byte}

theorem State.takeHeader_format (format : marker ≠ 0x3C) :
    (t.withLoader l i).takeHeader marker kind hi lo next = t.runEnded i .format l.sectionStart l := if_pos format

theorem State.takeHeader_end (isMarker : marker = 0x3C) (isEnd : kind = 0) :
    (t.withLoader l i).takeHeader marker kind hi lo next =
      t.runEnded i (if l.failureNoted = true then .partialLoad else .complete) l.sectionStart l :=
  (if_neg (not_not.mpr isMarker)).trans (if_pos isEnd)

/-- The last byte of a body or skip lies beyond the address limit. -/
theorem State.takeHeader_overflow (isMarker : marker = 0x3C) (notEnd : kind ≠ 0)
    (beyond : be16 hi lo ≠ 0 ∧ l.limit < next + be16 hi lo - 1) :
    (t.withLoader l i).takeHeader marker kind hi lo next = t.runEnded i .overflow l.sectionStart l :=
  (if_neg (not_not.mpr isMarker)).trans <| (if_neg notEnd).trans (if_pos beyond)

variable (isMarker : marker = 0x3C) (inside : ¬ (be16 hi lo ≠ 0 ∧ l.limit < next + be16 hi lo - 1))

include isMarker inside

/-- A header that passes the tests leads past its body, or to the application of an empty one, or into it. -/
theorem State.takeHeader_inside (notEnd : kind ≠ 0) :
    (t.withLoader l i).takeHeader marker kind hi lo next =
      if knownKind kind = false then (t.withLoader l i).beginSection (next + be16 hi lo)
      else if be16 hi lo = 0 then (t.withLoader l i).finishSection kind [] next
      else (t.withLoader l i).readBody kind (be16 hi lo) [] :=
  (if_neg (not_not.mpr isMarker)).trans <| (if_neg notEnd).trans (if_neg inside)

theorem SlotFree.takeHeader_unknown (free : SlotFree t) (top : l.limit ≤ 65535) (unknown : 7 < kind.toNat) :
    ToSection t ((t.withLoader l i).takeHeader marker kind hi lo next) i l (next + be16 hi lo) := by
  have isUnknown : knownKind kind = false := by
    rw [← Bool.not_eq_true, knownKind_iff]
    omega
  rw [State.takeHeader_inside isMarker inside (ne_zero_of_one_le_toNat (by omega)), if_pos isUnknown]
  exact free.beginSection l top i _

variable (known : 1 ≤ kind.toNat ∧ kind.toNat ≤ 7)

include known

theorem SlotFree.takeHeader_empty (free : SlotFree t) (top : l.limit ≤ 65535) (empty : be16 hi lo = 0) :
    ToSection t ((t.withLoader l i).takeHeader marker kind hi lo next) i
      { l with failed := l.failed + 1, failureNoted := true } next := by
  have finish := free.finishSection l top i kind [] next
  rw [t.applySection_nil] at finish
  rw [State.takeHeader_inside isMarker inside (ne_zero_of_one_le_toNat known.1),
    if_neg (by rw [(knownKind_iff kind).mpr known]; decide), if_pos empty]
  exact finish

theorem SlotFree.takeHeader_body (free : SlotFree t) (nonempty : be16 hi lo ≠ 0) :
    (t.withLoader l i).takeHeader marker kind hi lo next =
      t.readsNext i l.cursor (min 64 (be16 hi lo)) { l with phase := .body kind (be16 hi lo) [] } := by
  rw [State.takeHeader_inside isMarker inside (ne_zero_of_one_le_toNat known.1),
    if_neg (by rw [(knownKind_iff kind).mpr known]; decide), if_neg nonempty]
  exact free.readBody l i kind _ []

end

/-! ### What the loader does with the bytes, by its phase (R181) -/

theorem State.loaderTakes_marker (t : State) {l : Loader} (k : Nat) (phase : l.phase = .marker) (b : Byte) :
    (t.withLoader l k).loaderTakes [b] =
      if b = 0xC3 then (t.withLoader l k).beginSection 1 else t.runEnded k .noImage 0 l := by
  simp only [State.loaderTakes, State.withLoader, phase]
  rfl

theorem State.loaderTakes_header (t : State) {l : Loader} (k : Nat) (phase : l.phase = .header)
    (marker kind hi lo : Byte) :
    ∃ x i, HoldsFrom k (l.cursor + 4) x i ∧ (t.withLoader l k).loaderTakes [marker, kind, hi, lo] =
      (t.withLoader { l with cursor := x } i).takeHeader marker kind hi lo (l.cursor + 4) := by
  obtain ⟨x, i, held, moved⟩ := t.withLoader_moveCursor l k (l.cursor + 4)
  refine ⟨x, i, held, ?_⟩
  rw [← moved]
  simp only [State.loaderTakes, State.withLoader, phase]

theorem State.loaderTakes_body (t : State) {l : Loader} (k : Nat) {kind : Byte} {length : Nat} {got : List Byte}
    (phase : l.phase = .body kind length got) (bytes : List Byte) :
    ∃ x i, HoldsFrom k (l.cursor + bytes.length) x i ∧ (t.withLoader l k).loaderTakes bytes =
      if (got ++ bytes).length < length then
        (t.withLoader { l with cursor := x } i).readBody kind length (got ++ bytes)
      else
        (t.withLoader { l with cursor := x } i).finishSection kind (got ++ bytes) (l.cursor + bytes.length) := by
  obtain ⟨x, i, held, moved⟩ := t.withLoader_moveCursor l k (l.cursor + bytes.length)
  refine ⟨x, i, held, ?_⟩
  rw [← moved]
  simp only [State.loaderTakes, State.withLoader, phase]

/-! ### A completed read of the loader (R55, R58) -/

/-- With nothing waiting behind it, a completed read leaves its slot free. -/
theorem readDone_slotFree {s : State} (nothing : s.bus.waitingRequest = none) (r : Request) (received : List Byte)
    (lateLoss : Bool) : SlotFree (readDone s r received lateLoss) := by
  cases lateLoss <;> exact ⟨by simp [readDone, handedOn, nothing], rfl⟩

/-- The completion of an NVM read hands its bytes to the loader (R55). -/
theorem exec_nvmReadComplete {s : State} {address count : Nat} (active : s.bus.slot = .active (.nvm address count))
    {bytes : List Byte} (all : bytes.length = count) (lateLoss : Bool) :
    exec (.nvmReadComplete bytes lateLoss) s =
      .next (((readDone s (.nvm address count) bytes lateLoss).withLoader s.loader s.freeIndex).loaderTakes bytes) := by
  have loader : (readDone s (.nvm address count) bytes lateLoss).withLoader s.loader s.freeIndex =
      readDone s (.nvm address count) bytes lateLoss := by
    cases lateLoss <;> rfl
  simp only [exec, execNvmReadComplete, active, all, if_true, State.completeRead_eq, loader]

/-- Settles O33: phase by phase, from what the loader does with the bytes. -/
theorem loaderWalk : Obligations.LoaderWalk := by
  intro s address count lateLoss active nothing least top l does taken held reads ended nextSection
  have room : 8191 ≤ l.limit ∧ l.limit ≤ 65535 := ⟨least, top⟩
  have leads : ∀ {bytes : List Byte} {t : State}, bytes.length = count →
      ((taken bytes).withLoader l s.freeIndex).loaderTakes bytes = t → does bytes t := fun all h =>
    h ▸ exec_nvmReadComplete active all lateLoss
  have free : ∀ bytes, SlotFree (taken bytes) := fun bytes => readDone_slotFree nothing _ bytes lateLoss
  have goesOn : ∀ {bytes : List Byte} {t : State} {loader : Loader} {next : Nat}, bytes.length = count →
      loader.limit = l.limit →
      ToSection t (((taken bytes).withLoader l s.freeIndex).loaderTakes bytes) s.freeIndex loader next →
      nextSection bytes t loader next := fun all limit ⟨x, i, holds, within, beyond⟩ =>
    ⟨x, i, holds, fun h => leads all (within (limit ▸ h)), fun h => leads all (beyond (limit ▸ h))⟩
  refine ⟨fun phase one b => ?marker, fun phase four marker kind hi lo => ?header,
    fun kind length got bytes phase short asked all => ?body⟩
  case marker =>
    have walk := (taken [b]).loaderTakes_marker s.freeIndex phase b
    refine ⟨fun other => leads one.symm (walk.trans (if_neg other)), fun isMarker => ?_⟩
    obtain ⟨x, i, ⟨-, -, low⟩, within, -⟩ := (free [b]).beginSection l top s.freeIndex 1
    obtain ⟨rfl, rfl⟩ := low (by decide)
    exact leads one.symm ((walk.trans (if_pos isMarker)).trans (within (by omega)))
  case header =>
    intro length next bytes body
    have all : bytes.length = count := four.symm
    obtain ⟨x, i, moved, walk⟩ := (taken bytes).loaderTakes_header s.freeIndex phase marker kind hi lo
    refine ⟨⟨x, i, moved, fun format => ?_, fun isMarker isEnd => ?_, fun isMarker ⟨notEnd, beyond⟩ => ?_⟩,
      fun isMarker low high nonempty within => ?_, fun isMarker low high empty => ?_, fun isMarker high within => ?_⟩
    · exact leads all (walk.trans (State.takeHeader_format format))
    · exact leads all (walk.trans (State.takeHeader_end isMarker isEnd))
    · exact leads all (walk.trans (State.takeHeader_overflow isMarker notEnd beyond))
    · have inside : ¬ (length ≠ 0 ∧ l.limit < next + length - 1) := fun beyond =>
        within ⟨ne_zero_of_one_le_toNat low, beyond⟩
      obtain ⟨-, -, addresses⟩ := moved
      obtain ⟨rfl, rfl⟩ := addresses (show next ≤ 65535 by omega)
      exact leads all (walk.trans ((free bytes).takeHeader_body isMarker inside ⟨low, high⟩ nonempty))
    · refine goesOn all rfl (.after_moveCursor moved le_rfl ?_)
      rw [walk]
      exact (free bytes).takeHeader_empty isMarker (fun beyond => beyond.1 empty) ⟨low, high⟩ top empty
    · refine goesOn all rfl (.after_moveCursor moved (Nat.le_add_right ..) ?_)
      rw [walk]
      exact (free bytes).takeHeader_unknown isMarker
        (fun beyond => within ⟨ne_zero_of_one_le_toNat (by omega), beyond⟩) top high
  case body =>
    intro next
    have total : (got ++ bytes).length = got.length + count := by rw [List.length_append, all]
    obtain ⟨x, i, moved, walk⟩ := (taken bytes).loaderTakes_body s.freeIndex phase bytes
    rw [total, all] at walk
    rw [all] at moved
    refine ⟨fun more => ⟨x, i, moved, ?_⟩, fun complete => ?_⟩
    · rw [if_pos more, (free bytes).readBody, total] at walk
      exact leads all walk
    · refine goesOn all rfl (.after_moveCursor moved le_rfl ?_)
      have finish := (free bytes).finishSection { l with cursor := x } top i kind (got ++ bytes) next
      rw [Loader.countSection_eq] at finish
      rw [walk, if_neg (by omega)]
      exact finish

end Sys2Proof.Machine
end

section
/-! What the packets of a frame do to the intake: FOPEN by its two tests, LINE by the tests of R74, FCLOSE, and packets
that are no part of a frame (R64 to R77). -/

namespace Sys2Proof.Machine

open Sys2Proof.Safety

/-! ### Packets of other kinds (R64, R163, R164) -/

/-- Settles O5: by the room on the command queue. -/
theorem packetArrivals : Obligations.PacketArrivals := by
  refine ⟨fun s first code count operands room => ?_, fun s first code count operands full => ?_, fun s => rfl⟩
  · exact if_pos room
  · exact if_neg (Nat.not_lt.mpr full)

/-! ### FOPEN (R68 to R71) -/

section

variable (i : Intake) (h : FrameHeader)

/-- The items held, the reservation counted as one (R66). -/
def Intake.heldItems : Nat := i.queue.length + if i.reserved = true then 1 else 0

theorem Intake.freeItems_eq : i.freeItems = 40 - i.heldItems := rfl

/-- The geometry that FOPEN accepts (R68). -/
abbrev FrameHeader.Good : Prop := 1 ≤ h.width ∧ h.width ≤ 1800 ∧ 1 ≤ h.height ∧ h.height ≤ 2400

/-- A new frame's first anomaly is its only one (R65). -/
theorem Intake.newHeader_addAnomaly (a : Anomaly) :
    (i.newHeader h).addAnomaly a = { i.newHeader h with anomalies := a.bit } := by
  simp [Intake.addAnomaly, Intake.newHeader]

variable {h}

theorem Intake.openFrame_badGeometry (bad : ¬ h.Good) :
    i.openFrame h = { i.newHeader h with state := .refusing, anomalies := 1 } := by
  have refused : i.openFrame h = { (i.newHeader h).addAnomaly .badGeometry with state := .refusing } := if_pos bad
  rw [refused, Intake.newHeader_addAnomaly]
  rfl

variable (good : h.Good)

include good

theorem Intake.openFrame_noRoom (full : 38 < i.heldItems) :
    i.openFrame h = { i.newHeader h with state := .refusing, anomalies := 2 } := by
  have few : (i.newHeader h).freeItems < 2 := by
    show 40 - i.heldItems < 2
    omega
  have refused : i.openFrame h = { (i.newHeader h).addAnomaly .frameRefused with state := .refusing } :=
    (if_neg (not_not.mpr good)).trans (if_pos few)
  rw [refused, Intake.newHeader_addAnomaly]
  rfl

theorem Intake.openFrame_accepted (room : i.heldItems ≤ 38) :
    i.openFrame h =
      { i.newHeader h with
        state := .receiving, reserved := true
        queue := i.queue ++ [.frameStart h.number h.width h.height] } := by
  have enough : ¬ (i.newHeader h).freeItems < 2 := by
    show ¬ 40 - i.heldItems < 2
    omega
  exact (if_neg (not_not.mpr good)).trans (if_neg enough)

end

/-- The two tests of FOPEN do not read the intake state (R68). -/
theorem Intake.openFrame_state (i : Intake) (h : FrameHeader) (state : IntakeState) :
    Intake.openFrame { i with state := state } h = i.openFrame h := by
  unfold Intake.openFrame
  dsimp only
  split
  · rfl
  · exact ite_congr rfl (fun _ => rfl) fun _ => rfl

/-- A frame that ends with an anomaly has its record offered (R78). -/
theorem State.offerIntake_of_anomaly {s : State} (some : s.intake.anomalies ≠ 0) :
    s.offerIntake = s.offer (.intake s.intake.header.number s.intake.anomalies s.intake.accepted s.intake.dropped
      s.intake.firstDropped) := if_neg some

/-- A frame that an FOPEN ends has the TRUNCATED anomaly. -/
theorem truncated_ne_zero (anomalies : BitVec 16) : anomalies ||| 4 ≠ 0 := by
  intro h
  have bit := congrArg (·.getLsbD 2) h
  simp at bit

/-- An FOPEN that finds a frame open is taken in IDLE once that frame has been ended: what is left of the ended frame is
its state, and FOPEN does not read it (R69, R70). -/
theorem execFopen_of_ended {s t : State} (idle : t.intake.state = .idle) {state : IntakeState}
    (ended : s.truncateFrame = { t with intake := { t.intake with state := state } }) (frame width height : Word16) :
    execFopen frame width height s = execFopen frame width height t := by
  have stays : t.truncateFrame = t := by
    unfold State.truncateFrame
    rw [idle]
  unfold execFopen
  dsimp only
  rw [ended, stays, Intake.openFrame_state]

/-- Settles O36: in IDLE by the two tests of FOPEN, else by the end of the open frame. -/
theorem fopenEffect : Obligations.FopenEffect := by
  intro s frame width height opened goodGeometry held truncated
  have inIdle : s.intake.state = .idle → ∀ i : Intake, s.intake.openFrame ⟨frame, width.toNat, height.toNat⟩ = i →
      exec (.fopen frame width height) s = .next (State.fopenArrival { s with intake := i }) := by
    rintro idle _ rfl
    simp only [exec, execFopen, State.truncateFrame, idle]
  refine ⟨fun idle bad => inIdle idle _ (s.intake.openFrame_badGeometry bad),
    fun idle good full => inIdle idle _ (s.intake.openFrame_noRoom good full),
    fun idle good room => inIdle idle _ (s.intake.openFrame_accepted good room), fun open_ => ?_, fun open_ => ?_⟩
  · refine execFopen_of_ended (state := .receiving) rfl ?_ frame width height
    rw [State.truncateFrame, open_]
    dsimp only
    rw [State.offerIntake_of_anomaly (truncated_ne_zero _), ← open_]
    rfl
  · refine execFopen_of_ended (state := .refusing) rfl ?_ frame width height
    rw [State.truncateFrame, open_]
    dsimp only
    rw [State.offerIntake_of_anomaly (truncated_ne_zero _), ← open_]
    rfl

/-! ### LINE (R72 to R75) -/

/-- The row test of R74: the line is at or before the last accepted one. -/
theorem lastRow_any_le_iff (lastRow : Option Nat) (row : Nat) :
    lastRow.any (row ≤ ·) = true ↔ ¬ ∀ last, lastRow = some last → last < row := by
  cases lastRow <;> simp

/-- The lowest-numbered free line slot (R67). -/
theorem Intake.lowestFree_eq_some {i : Intake} {n : Fin 32} (free : i.lines[n] = none)
    (lower : ∀ m : Fin 32, m < n → i.lines[m] ≠ none) : i.lowestFree = some n := by
  refine List.find?_eq_some_iff_getElem.mpr ⟨by simp [free], n, by simp, by simp, fun j hj => ?_⟩
  have taken := lower ⟨j, by omega⟩ hj
  simpa [Option.isSome_iff_ne_none] using taken

theorem Intake.lowestFree_eq_none_iff (i : Intake) : i.lowestFree = none ↔ ∀ n : Fin 32, i.lines[n] ≠ none := by
  simp [Intake.lowestFree, List.find?_eq_none]

/-- The lowest free line slot is free. -/
theorem Intake.free_of_lowestFree {i : Intake} {n : Fin 32} (h : i.lowestFree = some n) : i.lines[n] = none := by
  simpa using List.find?_some h

/-- An accepted line has exactly W pixels (R75). -/
theorem fitLine_length (w : Nat) (payload : List Pixel) : (fitLine w payload).length = w := by
  simp only [fitLine, List.length_append, List.length_take, List.length_replicate]
  omega

/-- Each is the payload's, or black past its end (R75). -/
theorem fitLine_getElem? (w : Nat) (payload : List Pixel) {c : Nat} (h : c < w) :
    (fitLine w payload)[c]? = some (payload.getD c Pixel.black) := by
  rw [fitLine, List.getElem?_append, List.getD_eq_getElem?_getD]
  by_cases inside : c < payload.length
  · simp [h, inside]
  · have pad : c - min w payload.length < w - payload.length := by omega
    simp [inside, pad]

/-- What the intake becomes when it discards a line with an anomaly (R73, R74). -/
def Intake.discard (i : Intake) (anomaly : BitVec 16) (row : Nat) : Intake :=
  { i with
    arrived := min (i.arrived + 1) 65535
    dropped := min (i.dropped + 1) 65535
    firstDropped := match i.firstDropped with
      | none => some row
      | some first => some first
    anomalies := i.anomalies ||| anomaly }

/-- A line dropped with an anomaly is the discarded line of the statements. -/
theorem Intake.dropLine_eq_discard (i : Intake) (anomaly : BitVec 16) (row : Nat) :
    Intake.dropLine { i with arrived := countUp i.arrived, anomalies := i.anomalies ||| anomaly } row =
      i.discard anomaly row := by
  unfold Intake.dropLine Intake.discard
  cases i.firstDropped <;> rfl

section

variable {i : Intake} {row : Nat} {payload : List Pixel}

theorem Intake.takeLine_rowRange (below : i.header.height ≤ row) : i.takeLine row payload = i.discard 0x010 row :=
  (if_pos below).trans (i.dropLine_eq_discard ..)

variable (inFrame : row < i.header.height)

include inFrame

theorem Intake.takeLine_rowOrder (behind : ¬ ∀ last, i.lastRow = some last → last < row) :
    i.takeLine row payload = i.discard 0x020 row := by
  have notAfter := (lastRow_any_le_iff i.lastRow row).mpr behind
  exact (if_neg (Nat.not_le.mpr inFrame)).trans ((if_pos notAfter).trans (i.dropLine_eq_discard ..))

variable (inOrder : ∀ last, i.lastRow = some last → last < row)

include inOrder

/-- Past the tests of the row, a line needs a free item and a free line slot (R74). -/
theorem Intake.takeLine_inOrder :
    i.takeLine row payload =
      if 40 ≤ i.heldItems then i.discard 0x040 row
      else match i.lowestFree with
        | none => i.discard 0x040 row
        | some n => Intake.acceptLine { i with arrived := countUp i.arrived } n row payload := by
  have after : ¬ i.lastRow.any (row ≤ ·) = true := fun h => (lastRow_any_le_iff i.lastRow row).mp h inOrder
  have full : ({ i with arrived := countUp i.arrived } : Intake).freeItems = 0 ↔ 40 ≤ i.heldItems := by
    show 40 - i.heldItems = 0 ↔ _
    omega
  refine (if_neg (Nat.not_le.mpr inFrame)).trans ((if_neg after).trans ?_)
  refine ite_congr (propext full) (fun _ => i.dropLine_eq_discard ..) fun _ => ?_
  show (match i.lowestFree with | none => _ | some n => _) = _
  cases i.lowestFree with
  | none => exact i.dropLine_eq_discard ..
  | some n => rfl

theorem Intake.takeLine_noRoom (full : 40 ≤ i.heldItems ∨ ∀ n : Fin 32, i.lines[n] ≠ none) :
    i.takeLine row payload = i.discard 0x040 row := by
  rw [Intake.takeLine_inOrder inFrame inOrder]
  split
  · rfl
  · next room =>
    rw [i.lowestFree_eq_none_iff.mpr (full.resolve_left room)]

theorem Intake.takeLine_accepted (room : i.heldItems < 40) {n : Fin 32} (free : i.lowestFree = some n) :
    i.takeLine row payload = Intake.acceptLine { i with arrived := countUp i.arrived } n row payload := by
  rw [Intake.takeLine_inOrder inFrame inOrder, if_neg (Nat.not_le.mpr room), free]

end

/-- An accepted line, field by field (R67, R75). -/
theorem Intake.acceptLine_eq (i : Intake) (n : Fin 32) (row : Nat) (payload : List Pixel) :
    i.acceptLine n row payload =
      { i with
        lines := i.lines.set n (some ⟨fitLine i.header.width payload, true, 0⟩)
        queue := i.queue ++ [.line n row]
        lastRow := some row
        accepted := i.accepted + 1
        anomalies := if payload.length < i.header.width then i.anomalies ||| 0x080 else i.anomalies } := by
  unfold Intake.acceptLine
  dsimp only
  split <;> rfl

theorem exec_line_receiving {s : State} (receiving : s.intake.state = .receiving) (row : Word16)
    (payload : List Pixel) :
    exec (.line row payload) s = .next { s with intake := s.intake.takeLine row.toNat payload } := by
  simp only [exec, execLine, receiving]

theorem exec_line_refusing {s : State} (refusing : s.intake.state = .refusing) (row : Word16)
    (payload : List Pixel) :
    exec (.line row payload) s = .next { s with intake := s.intake.discard 0 row.toNat } := by
  have untested := s.intake.dropLine_eq_discard 0 row.toNat
  rw [show s.intake.anomalies ||| 0 = s.intake.anomalies from BitVec.or_zero] at untested
  rw [← untested]
  simp only [exec, execLine, refusing]

/-- Settles O37: the tests pass, so the line takes the lowest free slot. -/
theorem lineAccepted : Obligations.LineAccepted := by
  intro s row payload n receiving inFrame inOrder room free lower
  refine ⟨fitLine s.intake.header.width payload, fitLine_length .., fun c hc => fitLine_getElem? _ _ hc, ?_⟩
  rw [exec_line_receiving receiving, Intake.takeLine_accepted inFrame inOrder room
    (Intake.lowestFree_eq_some free lower), Intake.acceptLine_eq]
  rfl

/-- Settles O38: in RECEIVING by the first test that fails, in REFUSING without a test, in IDLE by the stray-reported
flag. -/
theorem lineDiscarded : Obligations.LineDiscarded := by
  intro s row payload discarded inOrder
  have taken : ∀ anomaly, s.intake.state = .receiving →
      s.intake.takeLine row.toNat payload = s.intake.discard anomaly row.toNat →
      exec (.line row payload) s = .next (discarded anomaly) := fun anomaly receiving h => by
    rw [exec_line_receiving receiving, h]
    rfl
  refine ⟨fun receiving below => taken _ receiving (Intake.takeLine_rowRange below),
    fun receiving inFrame behind => taken _ receiving (Intake.takeLine_rowOrder inFrame behind),
    fun receiving inFrame ordered full => taken _ receiving (Intake.takeLine_noRoom inFrame ordered full),
    fun refusing => ?_, fun idle reported => ?_, fun idle first => ?_⟩
  · rw [exec_line_refusing refusing]
    rfl
  · simp only [exec, execLine, idle, State.strayLine, reported, if_true]
  · simp only [exec, execLine, idle, State.strayLine, first]
    rfl

/-! ### FCLOSE (R76, R77) -/

/-- The comparison of FCLOSE may add MISSING, and nothing else (R76). -/
theorem Intake.compareLines_eq (i : Intake) (linesSent : Nat) :
    i.compareLines linesSent =
      { i with anomalies := if linesSent = i.arrived then i.anomalies else i.anomalies ||| 8 } := by
  unfold Intake.compareLines
  split <;> rfl

/-- Settles O39: by the intake state. -/
theorem fcloseEffect : Obligations.FcloseEffect := by
  intro s linesSent anomalies reported
  refine ⟨fun receiving => ?_, fun refusing => ?_, fun idle => ?_⟩
  · simp only [exec, execFclose, receiving, Intake.compareLines_eq]
    rfl
  · simp only [exec, execFclose, refusing, Intake.compareLines_eq]
    rfl
  · simp only [exec, execFclose, idle]

end Sys2Proof.Machine
end

section
/-! What placing runs does to the queues and to their references, and how a line in hand is examined (R67, R88 to R92,
R113, R121). -/

namespace Sys2Proof.Machine

open Sys2Proof.Safety

/-! ### One run placed (R67, R113, R121) -/

/-- A line slot with more references. -/
def LineSlot.withRefs (l : LineSlot) (more : Nat) : LineSlot := { l with refs := l.refs + more }

theorem State.placeRun_lines (s : State) (r : Run) (n : Fin 32) :
    (s.placeRun r).intake.lines[n] =
      if r.source.lineSlot? = some n then s.intake.lines[n].map (·.withRefs 1) else s.intake.lines[n] := by
  have placed : (s.placeRun r).intake = match r.source.lineSlot? with
    | some m => s.intake.addLineRef m
    | none => s.intake := rfl
  rw [placed]
  cases r.source.lineSlot? with
  | none => rfl
  | some m =>
    refine (s.intake.changeLine_lines m n _).trans ?_
    by_cases h : n = m
    · subst h
      rw [if_pos rfl, if_pos rfl]
      cases s.intake.lines[n] <;> rfl
    · rw [if_neg h, if_neg fun e => h (Option.some.inj e).symm]

theorem State.placeRun_buffers (s : State) (r : Run) (n : Fin 2) :
    (s.placeRun r).gain.buffers[n] = { s.gain.buffers[n] with
      refs := s.gain.buffers[n].refs + if r.source.snapshot? = some n then 1 else 0 } := by
  have placed : (s.placeRun r).gain = match r.source.snapshot? with
    | some m => s.gain.changeRefs m (· + 1)
    | none => s.gain := rfl
  rw [placed]
  cases r.source.snapshot? with
  | none => rfl
  | some m =>
    refine (s.gain.changeRefs_buffers m n _).trans ?_
    by_cases h : n = m
    · subst h
      simp
    · rw [if_neg h, if_neg fun e => h (Option.some.inj e).symm]
      rfl

/-- What placing a run leaves unchanged. -/
theorem State.placeRun_frame (s : State) (r : Run) :
    s.placeRun r = { s with
      engine := { s.engine with queues := (s.placeRun r).engine.queues }
      intake := { s.intake with lines := (s.placeRun r).intake.lines }
      gain := { s.gain with buffers := (s.placeRun r).gain.buffers } } := by
  rw [← s.placeRun_intake r, ← s.placeRun_gain r]
  rfl

/-! ### Runs placed one after another -/

/-- The runs are placed in this order. -/
def State.placeRuns (s : State) (runs : List Run) : State := runs.foldl State.placeRun s

@[simp] theorem State.placeRuns_nil (s : State) : s.placeRuns [] = s := rfl

@[simp] theorem State.placeRuns_cons (s : State) (r : Run) (runs : List Run) :
    s.placeRuns (r :: runs) = (s.placeRun r).placeRuns runs := rfl

/-- Each stands on its driver's queue, in order (R121). -/
theorem State.placeRuns_queue (s : State) (runs : List Run) (d : Driver) :
    (s.placeRuns runs).engine.queues.get d = s.engine.queues.get d ++ runs.filter fun r => r.driver = d := by
  induction runs generalizing s with
  | nil => simp
  | cons r runs ih =>
    rw [State.placeRuns_cons, ih, s.placeRun_queue]
    by_cases h : d = r.driver
    · subst h
      simp
    · simp [h, Ne.symm h]

/-- Runs of one line take their references on its slot alone (R67). -/
theorem State.placeRuns_lines (s : State) (runs : List Run) {slot : Fin 32}
    (ofSlot : ∀ r ∈ runs, r.source.lineSlot? = some slot) (n : Fin 32) :
    (s.placeRuns runs).intake.lines[n] =
      if n = slot then s.intake.lines[n].map (·.withRefs runs.length) else s.intake.lines[n] := by
  induction runs generalizing s with
  | nil =>
    have none : ∀ o : Option LineSlot, o.map (·.withRefs 0) = o := by rintro (_ | _) <;> rfl
    simp [none]
  | cons r runs ih =>
    rw [State.placeRuns_cons, ih _ fun r' h => ofSlot r' (.tail _ h), s.placeRun_lines, ofSlot r (.head _)]
    by_cases h : n = slot
    · subst h
      cases s.intake.lines[n] <;> simp [LineSlot.withRefs]
      omega
    · simp [h, Ne.symm h]

/-- A snapshot counts the runs that carry it (R113). -/
theorem State.placeRuns_buffers (s : State) (runs : List Run) (n : Fin 2) :
    (s.placeRuns runs).gain.buffers[n] = { s.gain.buffers[n] with
      refs := s.gain.buffers[n].refs + runs.countP fun r => r.source.snapshot? = some n } := by
  induction runs generalizing s with
  | nil => rfl
  | cons r runs ih =>
    rw [State.placeRuns_cons, ih, s.placeRun_buffers, List.countP_cons]
    simp
    omega

/-- What placing runs leaves unchanged. -/
theorem State.placeRuns_frame (s : State) (runs : List Run) :
    s.placeRuns runs = { s with
      engine := { s.engine with queues := (s.placeRuns runs).engine.queues }
      intake := { s.intake with lines := (s.placeRuns runs).intake.lines }
      gain := { s.gain with buffers := (s.placeRuns runs).gain.buffers } } := by
  induction runs generalizing s with
  | nil => rfl
  | cons r runs ih =>
    have rest := ih (s.placeRun r)
    rw [State.placeRuns_cons]
    generalize (s.placeRun r).placeRuns runs = t at *
    rw [s.placeRun_frame r] at rest
    exact rest

/-! ### The runs of a line (R88, R89) -/

/-- A copy run of a line: it has not been attempted, reads the line's slot, and carries a snapshot for driver S alone
(R89, R113). -/
structure CopyRunOf (slot : Fin 32) (r : Run) : Prop where
  ofSlot : r.source.lineSlot? = some slot
  isCopy : r.isFill = false
  fresh : r.attempts = 0
  spineOnly : r.source.snapshot?.isSome = true → r.driver = .spine

theorem copyRun_of_some {modes : PerZone ZoneMode} {f : FrameInHand} {slot : Fin 32} {row : Nat} {e : Entry} {r : Run}
    (h : copyRun modes f slot row e = some r) : CopyRunOf slot r := by
  unfold copyRun at h
  split at h
  · split at h
    · cases h
      refine ⟨rfl, rfl, rfl, fun carries => ?_⟩
      by_contra other
      simp [RunSource.snapshot?, other] at carries
    · cases h
  · cases h

/-- There is room for each of the runs. -/
def State.Fits (s : State) (runs : List Run) : Prop :=
  ∀ d : Driver, (s.engine.queues.get d).length + (runs.countP fun r => r.driver = d) ≤ 8

theorem Engine.hasRoom_iff (e : Engine) (d : Driver) : e.hasRoom d = true ↔ (e.queues.get d).length < 8 := by
  simp [Engine.hasRoom]

theorem State.Fits.first {s : State} {r : Run} {runs : List Run} (fits : s.Fits (r :: runs)) :
    s.engine.hasRoom r.driver = true := by
  have own := fits r.driver
  rw [List.countP_cons_of_pos (by simp)] at own
  rw [Engine.hasRoom_iff]
  omega

theorem State.Fits.rest {s : State} {r : Run} {runs : List Run} (fits : s.Fits (r :: runs)) :
    (s.placeRun r).Fits runs := by
  intro d
  have own := fits d
  rw [s.placeRun_queue]
  by_cases h : d = r.driver
  · subst h
    rw [List.countP_cons_of_pos (by simp)] at own
    rw [if_pos rfl, List.length_append, List.length_singleton]
    omega
  · simpa [h, Ne.symm h] using own

section

variable {modes : PerZone ZoneMode} {f : FrameInHand} {slot : Fin 32} {row : Nat}

/-- Entries whose runs fit are examined by placing these runs (R88). -/
theorem examineEntries_append {s : State} (before after : List Entry) (i : Nat)
    (fits : s.Fits (before.filterMap (copyRun modes f slot row))) :
    examineEntries modes f slot row (before ++ after) i s =
      examineEntries modes f slot row after (i + before.length)
        (s.placeRuns (before.filterMap (copyRun modes f slot row))) := by
  induction before generalizing s i with
  | nil => rfl
  | cons e before ih =>
    have next : i + (e :: before).length = i + 1 + before.length := by
      rw [List.length_cons]
      omega
    rw [List.cons_append, examineEntries, next]
    cases gives : copyRun modes f slot row e with
    | none =>
      rw [List.filterMap_cons_none gives] at fits ⊢
      exact ih _ fits
    | some r =>
      rw [List.filterMap_cons_some gives] at fits ⊢
      rw [State.placeRuns_cons, ← ih _ fits.rest]
      exact if_pos fits.first

/-- An entry whose run finds its queue full stops the examination (R91). -/
theorem examineEntries_full {s : State} {e : Entry} {r : Run} (gives : copyRun modes f slot row e = some r)
    (full : s.engine.hasRoom r.driver = false) (after : List Entry) (i : Nat) :
    examineEntries modes f slot row (e :: after) i s =
      { s with mapper := { s.mapper with waitingRun := some r, lineInHand := some ⟨slot, row, i + 1⟩ } } := by
  rw [examineEntries, gives]
  exact if_neg (by simp [full])

/-- The runs of the entries are copy runs of the line. -/
theorem copyRunOf_of_mem_filterMap {es : List Entry} {r : Run} (h : r ∈ es.filterMap (copyRun modes f slot row)) :
    CopyRunOf slot r := by
  obtain ⟨e, -, gives⟩ := List.mem_filterMap.mp h
  exact copyRun_of_some gives

end

/-- What the release of the hold leaves in each line slot (R67). -/
theorem Intake.releaseHold_lines (i : Intake) (slot n : Fin 32) :
    (i.releaseHold slot).lines[n] =
      if n = slot then i.lines[n].bind fun x => if x.refs = 0 then none else some { x with hold := false }
      else i.lines[n] := by
  refine (i.changeLine_lines slot n _).trans ?_
  by_cases h : n = slot
  · subst h
    simp [LineSlot.settle]
  · rw [if_neg h, if_neg h]

/-- The runs of entries take their references on the line's slot alone. -/
theorem State.placeRuns_lines_of_entries (s : State) {modes : PerZone ZoneMode} {f : FrameInHand} {slot : Fin 32}
    {row : Nat} {es : List Entry} {runs : List Run} (gives : es.filterMap (copyRun modes f slot row) = runs)
    (n : Fin 32) :
    (s.placeRuns runs).intake.lines[n] =
      if n = slot then s.intake.lines[n].map (·.withRefs runs.length) else s.intake.lines[n] := by
  subst gives
  exact s.placeRuns_lines _ (fun r h => (copyRunOf_of_mem_filterMap h).ofSlot) n

/-- Settles O43: the entries whose runs fit are examined by placing these runs; after them stands the end of the list,
or an entry whose run waits. -/
theorem lineExamined : Obligations.LineExamined := by
  intro s f l give placed
  have isPlaced : ∀ {es : List Entry} {runs : List Run} (intake : Intake) (mapper : Mapper),
      es.filterMap give = runs → intake = { s.intake with lines := intake.lines } →
      (∀ n : Fin 32, n ≠ l.slot → intake.lines[n] = (s.placeRuns runs).intake.lines[n]) →
      placed { s.placeRuns runs with intake := intake, mapper := mapper } runs := by
    intro es runs intake mapper gives frame others
    refine ⟨s.placeRuns_queue runs, fun n other => ?_, s.placeRuns_buffers runs, ?_⟩
    · exact (others n other).trans ((s.placeRuns_lines_of_entries gives n).trans (if_neg other))
    · rw [s.placeRuns_frame runs]
      dsimp only
      rw [← frame]
  have sameMapper : ∀ runs, (s.placeRuns runs).mapper = s.mapper := fun runs => by rw [s.placeRuns_frame runs]
  have sameIntake : ∀ runs, (s.placeRuns runs).intake = { s.intake with lines := (s.placeRuns runs).intake.lines } :=
    fun runs => congrArg State.intake (s.placeRuns_frame runs)
  refine ⟨fun runs gives fits => ?_, fun before after e r runs entries gives waits fits full => ?_⟩
  · have examined : s.examineLine f l = (s.placeRuns runs).finishLine l.slot := by
      have all := examineEntries_append (s.mapper.copy.entries.drop l.next) [] l.next (gives ▸ fits)
      rw [List.append_nil] at all
      exact all.trans (by rw [examineEntries]; exact congrArg (fun runs => (s.placeRuns runs).finishLine l.slot) gives)
    show placed (s.examineLine f l) runs ∧ (s.examineLine f l).mapper = _
      ∧ (s.examineLine f l).intake.lines[l.slot] = _
    rw [examined]
    refine ⟨isPlaced _ _ gives ?_ fun n other => ?_, ?_, ?_⟩
    · rw [sameIntake runs]
      rfl
    · exact (Intake.releaseHold_lines ..).trans (if_neg other)
    · rw [State.finishLine_mapper, sameMapper]
    · refine ((Intake.releaseHold_lines ..).trans (if_pos rfl)).trans ?_
      rw [s.placeRuns_lines_of_entries gives, if_pos rfl]
      cases s.intake.lines[l.slot] <;> rfl
  · have noRoom : (s.placeRuns runs).engine.hasRoom r.driver = false := by
      rw [← Bool.not_eq_true, Engine.hasRoom_iff, s.placeRuns_queue, List.length_append, ← List.countP_eq_length_filter]
      omega
    have examined : s.examineLine f l = { s.placeRuns runs with mapper := { s.mapper with
        waitingRun := some r, lineInHand := some ⟨l.slot, l.row, l.next + before.length + 1⟩ } } := by
      have start : s.examineLine f l =
          examineEntries s.mapper.copy.modes f l.slot l.row (before ++ e :: after) l.next s :=
        congrArg (examineEntries _ f l.slot l.row · l.next s) entries
      have stops := examineEntries_full waits noRoom after (l.next + before.length)
      rw [sameMapper] at stops
      rw [start, examineEntries_append before (e :: after) l.next (gives ▸ fits), ← stops]
      exact congrArg (fun runs => examineEntries _ f l.slot l.row (e :: after) _ (s.placeRuns runs)) gives
    show placed (s.examineLine f l) runs ∧ (s.examineLine f l).mapper = _
      ∧ (s.examineLine f l).intake.lines[l.slot] = _
    rw [examined]
    refine ⟨isPlaced _ _ gives (sameIntake runs) fun n other => rfl, rfl, ?_⟩
    refine ((s.placeRuns_lines_of_entries gives _).trans (if_pos rfl)).trans ?_
    cases s.intake.lines[l.slot] <;> rfl

end Sys2Proof.Machine
end

section
/-! The traffic from the intake to the drivers: the commands that have no part in it, and that keep the command queue
and the report queue within their bounds (R66, R83, R120, R164, R173). -/

namespace Sys2Proof.Machine

open Sys2Proof.Safety

/-! ### What the traffic is -/

/-- What stands between the arrival of a frame and the end of its runs: the intake, what the mapper has in hand, the
snapshots, and the runs of the engine. -/
structure Traffic where
  intake : Intake
  frameOpen : Bool
  frameInHand : Option FrameInHand
  lineInHand : Option LineInHand
  waitingRun : Option Run
  buffers : Vector Snapshot 2
  queues : PerZone (List Run)
  phase : Phase
  inTransfer : Option Run

/-- The traffic of a state. -/
def State.traffic (s : State) : Traffic :=
  { intake := s.intake, frameOpen := s.mapper.frameOpen, frameInHand := s.mapper.frameInHand
    lineInHand := s.mapper.lineInHand, waitingRun := s.mapper.waitingRun, buffers := s.gain.buffers
    queues := s.engine.queues, phase := s.engine.phase, inTransfer := s.engine.inTransfer }

/-- The command queue and the report queue stay within their bounds (R164, R173). -/
structure Bounded (s t : State) : Prop where
  commands : s.control.queue.length ≤ 8 → t.control.queue.length ≤ 8
  records : s.reports.occupancy ≤ 512 → t.reports.occupancy ≤ 512

theorem Bounded.of_eq {s t : State} (control : t.control = s.control) (records : t.reports.records = s.reports.records) :
    Bounded s t := by
  refine ⟨fun h => control ▸ h, fun h => ?_⟩
  rw [Reports.occupancy, records]
  exact h

theorem Bounded.refl (s : State) : Bounded s s := .of_eq rfl rfl

theorem Bounded.trans {s t u : State} (h : Bounded s t) (h' : Bounded t u) : Bounded s u :=
  ⟨h'.commands ∘ h.commands, h'.records ∘ h.records⟩

/-- The same, from a state with the same two queues. -/
theorem Bounded.since {s t u : State} (h : Bounded t u) (control : t.control = s.control)
    (records : t.reports.records = s.reports.records) : Bounded s u :=
  (Bounded.of_eq control records).trans h

theorem Bounded.offer {s t : State} (h : Bounded s t) (b : ReportBody) : Bounded s (t.offer b) :=
  ⟨h.commands, fun hs => Reports.occupancy_offer_le _ _ _ (h.records hs)⟩

/-- The traffic is the same, and the other queues stay within their bounds. -/
structure Quiet (s t : State) : Prop where
  traffic : t.traffic = s.traffic
  bounded : Bounded s t

theorem Quiet.of_eq {s t : State} (traffic : t.traffic = s.traffic) (control : t.control = s.control)
    (records : t.reports.records = s.reports.records) : Quiet s t :=
  ⟨traffic, .of_eq control records⟩

theorem Quiet.refl (s : State) : Quiet s s := .of_eq rfl rfl rfl

theorem Quiet.trans {s t u : State} (h : Quiet s t) (h' : Quiet t u) : Quiet s u :=
  ⟨h'.traffic.trans h.traffic, h.bounded.trans h'.bounded⟩

/-- The same, with the later change first. -/
theorem Quiet.after {s t u : State} (h' : Quiet t u) (h : Quiet s t) : Quiet s u := h.trans h'

theorem Quiet.leaves {s t : State} (h : Quiet s t) : Answers (Quiet s) (.next t) := ⟨t, rfl, h⟩

/-! ### The shared operations -/

theorem State.offer_quiet (s : State) (b : ReportBody) : Quiet s (s.offer b) := ⟨rfl, (Bounded.refl s).offer b⟩

theorem State.notify_quiet (s : State) (n : Notice) : Quiet s (s.notify n) := .of_eq rfl rfl rfl

theorem State.respond_quiet (s : State) (status : Status) (data : List Byte) : Quiet s (s.respond status data) := by
  refine ⟨by simp [State.traffic], fun h => ?_, fun h => by simpa using h⟩
  cases hq : s.control.queue with
  | nil => simp [State.respond, hq]
  | cons p rest =>
    rw [s.respond_cons_control p rest status data hq]
    rw [hq, List.length_cons] at h
    exact Nat.le_of_succ_le h

/-- New tables and points leave the snapshots as they are. -/
theorem Quiet.setGain (s : State) {g : GainUnit} (buffers : g.buffers = s.gain.buffers) :
    Quiet s { s with gain := g } :=
  .of_eq (by simp only [State.traffic, buffers]) rfl rfl

/-- A command is quiet when its action is (R165). -/
theorem State.carryOut_quiet (s : State) (code : Byte) (fits : List Byte → Bool) (exempt : Bool)
    (act : List Byte → State → Reply) (acted : ∀ operands, Quiet s (act operands s).after) :
    Answers (Quiet s) (.next (s.carryOut code fits exempt act)) :=
  State.carryOut_keepsProp (.refl s) (fun t status data h => h.trans (t.respond_quiet status data))
    fun operands _ => acted operands

/-! ### Layouts and maps -/

theorem State.editReply_quiet (s : State) (n : Byte) (needs : Bool) (change : Layout → Option Layout) :
    Quiet s (s.editReply n needs change).after := by
  unfold State.editReply
  split <;> exact .of_eq rfl rfl rfl

/-- The actions of the four edit commands are edits, or refusals of a wrong number of bytes (R8). -/
theorem editActions_quiet {act : List Byte → State → Reply}
    (edit : act ∈ [slotClearAction, slotZonesAction, entryPutAction, entryDropAction]) (operands : List Byte)
    (s : State) : Quiet s (act operands s).after := by
  simp only [List.mem_cons, List.not_mem_nil, or_false] at edit
  obtain rfl | rfl | rfl | rfl := edit
  · unfold slotClearAction
    split
    · exact s.editReply_quiet ..
    · exact .refl s
  · unfold slotZonesAction
    split
    · exact s.editReply_quiet ..
    · exact .refl s
  · unfold entryPutAction
    split
    · exact s.editReply_quiet ..
    · exact .refl s
  · unfold entryDropAction
    split
    · exact s.editReply_quiet ..
    · exact .refl s

theorem slotCheckAction_quiet (operands : List Byte) (s : State) : Quiet s (slotCheckAction operands s).after := by
  unfold slotCheckAction
  split
  · split
    · dsimp only
      split
      · exact .refl s
      · exact .refl s
      · split <;> exact .of_eq rfl rfl rfl
    · exact .refl s
  · exact .refl s

theorem slotReadAction_quiet (operands : List Byte) (s : State) : Quiet s (slotReadAction operands s).after := by
  unfold slotReadAction
  split
  · split
    · dsimp only
      split
      · exact .refl s
      · split <;> exact .refl s
    · exact .refl s
  · exact .refl s

theorem State.offerToMap_quiet {s t : State} {p : Posture} {n : Nat} (ok : s.offerToMap p n = .ok t) : Quiet s t := by
  unfold State.offerToMap at ok
  split at ok
  · split at ok <;> cases ok
    exact .of_eq rfl rfl rfl
  · cases ok

theorem mapSetAction_quiet (operands : List Byte) (s : State) : Quiet s (mapSetAction operands s).after := by
  unfold mapSetAction
  split
  · split
    · exact .refl s
    · split
      · exact .refl s
      · next ok => exact State.offerToMap_quiet ok
  · exact .refl s

/-! ### Angles, gains, profiles, emission, the guard, reports -/

theorem State.adopt_quiet (s : State) (p : Posture) (initial face : Bool) : Quiet s (s.adopt p initial face) :=
  .after (State.notify_quiet ..) (.after (State.offer_quiet ..) (.of_eq rfl rfl rfl))

theorem faceSetAction_quiet (operands : List Byte) (s : State) : Quiet s (faceSetAction operands s).after := by
  unfold faceSetAction
  split
  · split
    · exact .refl s
    · dsimp only
      split
      · exact .after (State.adopt_quiet ..) (.of_eq rfl rfl rfl)
      · exact .of_eq rfl rfl rfl
  · exact .refl s

theorem angleSetAction_quiet (operands : List Byte) (s : State) : Quiet s (angleSetAction operands s).after := by
  unfold angleSetAction
  split <;> exact .of_eq rfl rfl rfl

theorem angleCalAction_quiet (operands : List Byte) (s : State) : Quiet s (angleCalAction operands s).after := by
  unfold angleCalAction
  split
  · split <;> exact .of_eq rfl rfl rfl
  · exact .refl s

theorem gainLoadAction_quiet (operands : List Byte) (s : State) : Quiet s (gainLoadAction operands s).after := by
  unfold gainLoadAction
  split
  · split
    · exact .refl s
    · next table _ =>
      dsimp only
      split
      · exact .refl s
      · refine Quiet.setGain s ?_
        cases table <;> rfl
  · exact .refl s

theorem gainPointsAction_quiet (operands : List Byte) (s : State) : Quiet s (gainPointsAction operands s).after := by
  unfold gainPointsAction
  split
  · split <;> exact .of_eq rfl rfl rfl
  · exact .refl s

theorem profileSetAction_quiet (operands : List Byte) (s : State) : Quiet s (profileSetAction operands s).after := by
  unfold profileSetAction
  split
  · split <;> exact .of_eq rfl rfl rfl
  · exact .refl s

theorem emitSetAction_quiet (operands : List Byte) (s : State) : Quiet s (emitSetAction operands s).after := by
  unfold emitSetAction
  split
  · split <;> exact .of_eq rfl rfl rfl
  · exact .refl s

theorem emitPeriodAction_quiet (operands : List Byte) (s : State) : Quiet s (emitPeriodAction operands s).after := by
  unfold emitPeriodAction
  split <;> exact .of_eq rfl rfl rfl

theorem emitFadeAction_quiet (operands : List Byte) (s : State) : Quiet s (emitFadeAction operands s).after := by
  unfold emitFadeAction
  split <;> exact .of_eq rfl rfl rfl

theorem guardSetAction_quiet (operands : List Byte) (s : State) : Quiet s (guardSetAction operands s).after := by
  unfold guardSetAction
  split <;> exact .of_eq rfl rfl rfl

/-- Records that leave the queue leave room (R173, R176). -/
theorem Reports.occupancy_drop_le (q : Reports) (n : Nat) :
    Reports.occupancy { q with records := q.records.drop n } ≤ q.occupancy :=
  ((q.records.drop_sublist n).map _).sum_le_sum fun _ _ => Nat.zero_le _

theorem reportReadAction_quiet (operands : List Byte) (s : State) : Quiet s (reportReadAction operands s).after := by
  unfold reportReadAction
  split
  · split
    · exact .refl s
    · exact ⟨rfl, id, fun h => (s.reports.occupancy_drop_le _).trans h⟩
  · exact .refl s

theorem attnSetAction_quiet (operands : List Byte) (s : State) : Quiet s (attnSetAction operands s).after := by
  unfold attnSetAction
  split
  · split <;> exact .of_eq rfl rfl rfl
  · exact .refl s

theorem State.estopActs_quiet (s : State) : Quiet s s.estopActs := by
  unfold State.estopActs
  split
  · exact .after (State.offer_quiet ..) (.of_eq rfl rfl rfl)
  · exact .refl s

theorem State.changeGuard_quiet (s : State) (new : GuardState) : Quiet s (s.changeGuard new) :=
  .after (State.notify_quiet ..) (.after (State.offer_quiet ..) (.of_eq rfl rfl rfl))

theorem State.fopenArrival_quiet (s : State) : Quiet s s.fopenArrival := by
  unfold State.fopenArrival
  split
  · exact .of_eq rfl rfl rfl
  · exact s.changeGuard_quiet _
  · exact s.changeGuard_quiet _

/-! ### Samples (R28 to R43) -/

theorem State.sampled_quiet (s : State) (raw : Nat) : Quiet s (s.sampled raw) := by
  unfold State.sampled State.reportsAfterRecovery
  split
  · exact ⟨rfl, id, Reports.occupancy_offer_le _ _ _⟩
  · exact .of_eq rfl rfl rfl

theorem State.classifySample_quiet (s : State) : Quiet s s.classifySample := by
  obtain ⟨initial, heq⟩ | heq | ⟨-, heq⟩ := s.classifySample_cases <;> rw [heq]
  · exact s.adopt_quiet ..
  · exact .of_eq rfl rfl rfl
  · exact .of_eq rfl rfl rfl

theorem State.goodSample_quiet (s : State) (first second : Byte) : Quiet s (s.goodSample first second) := by
  rw [s.goodSample_eq]
  exact .after (State.classifySample_quiet _) (s.sampled_quiet _)

theorem State.failedSample_quiet (s : State) : Quiet s s.failedSample := by
  rw [s.failedSample_eq]
  split
  · exact ⟨rfl, id, Reports.occupancy_offer_le _ _ _⟩
  · exact .of_eq rfl rfl rfl

/-! ### The image (R180 to R185) -/

theorem State.endRun_quiet (s : State) (outcome : LoadOutcome) (address : Nat) : Quiet s (s.endRun outcome address) :=
  .trans (t := State.offer { s with loader := { s.loader with lastOutcome := outcome } }
      (.loader outcome s.loader.applied s.loader.failed address))
    (.after (State.offer_quiet ..) (.of_eq rfl rfl rfl)) (.of_eq rfl rfl rfl)

theorem State.orKeep_quiet (s : State) (o : Option State) (h : ∀ t, o = some t → Quiet s t) :
    Quiet s (s.orKeep o).2 := by
  cases o with
  | none => exact .refl s
  | some t => exact h t rfl

theorem State.applyAngle_quiet {s t : State} {body : List Byte} (h : s.applyAngle body = some t) : Quiet s t := by
  unfold State.applyAngle at h
  split at h
  · obtain ⟨_, -, rfl⟩ := Option.map_eq_some_iff.mp h
    exact .of_eq rfl rfl rfl
  · cases h

theorem State.applyGain_quiet {s t : State} {body : List Byte} (h : s.applyGain body = some t) : Quiet s t := by
  unfold State.applyGain at h
  dsimp only at h
  split at h <;> cases h
  exact Quiet.setGain s rfl

theorem State.applyEmit_quiet {s t : State} {body : List Byte} (h : s.applyEmit body = some t) : Quiet s t := by
  unfold State.applyEmit at h
  split at h <;> cases h
  exact .of_eq rfl rfl rfl

theorem State.applyGuard_quiet {s t : State} {body : List Byte} (h : s.applyGuard body = some t) : Quiet s t := by
  unfold State.applyGuard at h
  split at h <;> cases h
  exact .of_eq rfl rfl rfl

theorem State.applyProfile_quiet (s : State) (d : Driver) (c w t : Byte) : Quiet s (s.applyProfile d c w t).2 := by
  unfold State.applyProfile
  split <;> exact .of_eq rfl rfl rfl

theorem State.applyProfiles_quiet (s : State) (body : List Byte) : Quiet s (s.applyProfiles body).2 := by
  unfold State.applyProfiles
  split
  · exact (State.applyProfile_quiet ..).trans ((State.applyProfile_quiet ..).trans (State.applyProfile_quiet ..))
  · exact .refl s

theorem State.applyLayout_quiet (s : State) (body : List Byte) : Quiet s (s.applyLayout body).2 := by
  unfold State.applyLayout
  split
  · split
    · exact .refl s
    · split
      · exact .refl s
      · split <;> exact .of_eq rfl rfl rfl
  · exact .refl s

theorem State.applyMapEntry_quiet (s : State) (p : Posture) (n : Byte) : Quiet s (s.applyMapEntry p n).2 := by
  unfold State.applyMapEntry
  split
  · next ok => exact State.offerToMap_quiet ok
  · exact .refl s

theorem State.applyMap_quiet (s : State) (body : List Byte) : Quiet s (s.applyMap body).2 := by
  unfold State.applyMap
  split
  · exact (State.applyMapEntry_quiet ..).trans ((State.applyMapEntry_quiet ..).trans
      ((State.applyMapEntry_quiet ..).trans (State.applyMapEntry_quiet ..)))
  · exact .refl s

/-- No section has a part in the traffic (R182). -/
theorem State.applySection_quiet (s : State) (kind : Byte) (body : List Byte) :
    Quiet s (s.applySection kind body).2 := by
  unfold State.applySection
  split
  · split
    · exact s.orKeep_quiet _ fun _ => State.applyAngle_quiet
    · exact s.orKeep_quiet _ fun _ => State.applyGain_quiet
    · exact s.orKeep_quiet _ fun _ => State.applyEmit_quiet
    · exact s.orKeep_quiet _ fun _ => State.applyGuard_quiet
    · exact s.applyProfiles_quiet body
    · exact s.applyLayout_quiet body
    · exact s.applyMap_quiet body
  · exact .refl s

theorem State.loaderTakes_quiet (s : State) (bytes : List Byte) : Quiet s (s.loaderTakes bytes) :=
  State.loaderTakes_induction (P := Quiet s) (Q := Quiet s)
    (registers := fun _ _ _ h _ => h.trans (.of_eq rfl rfl rfl))
    (applied := fun t kind body h => h.trans (t.applySection_quiet kind body))
    (ended := fun t outcome address h => h.trans (t.endRun_quiet outcome address))
    (header := fun _ _ h _ => h.trans (.of_eq rfl rfl rfl))
    (body := fun _ _ _ _ _ _ h _ => h.trans (.of_eq rfl rfl rfl))
    (.refl s) fun _ => .refl s

/-! ### The side bus (R27, R50 to R62) -/

theorem execSampleTimerExpiry_quiet (s : State) : Answers (Quiet s) (execSampleTimerExpiry s) := by
  unfold execSampleTimerExpiry
  dsimp only
  split <;> exact Quiet.leaves (.of_eq rfl rfl rfl)

theorem execTransactionStart_quiet (s : State) : Answers (Quiet s) (execTransactionStart s) := by
  unfold execTransactionStart
  split <;> exact Quiet.leaves (.of_eq rfl rfl rfl)

theorem execArbitrationLost_quiet (s : State) : Answers (Quiet s) (execArbitrationLost s) := by
  unfold execArbitrationLost
  split <;> exact Quiet.leaves (.of_eq rfl rfl rfl)

theorem State.completeRead_quiet (s : State) (r : Request) (received : List Byte) (lateLoss : Bool) :
    Quiet s (s.completeRead r received lateLoss) := by
  unfold State.completeRead
  split <;> exact .of_eq rfl rfl rfl

theorem execSensorReadComplete_quiet (first second : Byte) (lateLoss : Bool) (s : State) :
    Answers (Quiet s) (execSensorReadComplete first second lateLoss s) := by
  unfold execSensorReadComplete
  split
  · exact ((s.completeRead_quiet ..).trans (State.goodSample_quiet ..)).leaves
  · exact (Quiet.refl s).leaves

theorem execNvmReadComplete_quiet (bytes : List Byte) (lateLoss : Bool) (s : State) :
    Answers (Quiet s) (execNvmReadComplete bytes lateLoss s) := by
  unfold execNvmReadComplete
  split
  · split
    · exact ((s.completeRead_quiet ..).trans (State.loaderTakes_quiet ..)).leaves
    · exact (Quiet.refl s).leaves
  · exact (Quiet.refl s).leaves

theorem State.abort_quiet (s : State) (r : Request) (after : BusAfter) : Quiet s (s.abort r after) := by
  refine .after (t := s.endTransaction [] after) ?_ (.of_eq rfl rfl rfl)
  cases r with
  | sensor device register => exact State.failedSample_quiet _
  | nvm address count =>
    show Quiet _ (State.loaderFails _)
    unfold State.loaderFails
    split
    · exact State.endRun_quiet ..
    · exact .refl _

theorem State.breakOff_abort_quiet (s : State) (f : Nat → List BusSymbol) (r : Request) (after : BusAfter) :
    Quiet s ((s.breakOff f).abort r after) :=
  .after (State.abort_quiet ..) (.of_eq rfl rfl rfl)

theorem execNackAbort_quiet (s : State) : Answers (Quiet s) (execNackAbort s) := by
  unfold execNackAbort
  split
  · exact (s.breakOff_abort_quiet ..).leaves
  · exact (Quiet.refl s).leaves

theorem execStretchTimeout_quiet (s : State) : Answers (Quiet s) (execStretchTimeout s) := by
  unfold execStretchTimeout
  split
  · exact (s.breakOff_abort_quiet ..).leaves
  · exact (Quiet.refl s).leaves

theorem execTotalTimeout_quiet (sclHeldLow : Bool) (s : State) :
    Answers (Quiet s) (execTotalTimeout sclHeldLow s) := by
  unfold execTotalTimeout
  split
  · exact (s.abort_quiet ..).leaves
  · split <;> exact (s.breakOff_abort_quiet ..).leaves
  · exact (Quiet.refl s).leaves

/-! ### The other commands -/

/-- A packet is taken only while the command queue holds fewer than 8 (R164). -/
theorem execCtrl_quiet (first code count : Byte) (operands : List Byte) (s : State) :
    Answers (Quiet s) (execCtrl first code count operands s) := by
  unfold execCtrl
  split
  · next room =>
    refine Quiet.leaves ⟨rfl, fun _ => ?_, id⟩
    rw [List.length_append]
    exact room
  · exact Quiet.leaves ⟨rfl, id, id⟩

theorem execUnknownCommand_quiet (s : State) : Answers (Quiet s) (execUnknownCommand s) := by
  unfold execUnknownCommand
  split
  · split
    · exact (Quiet.refl s).leaves
    · exact (s.respond_quiet ..).leaves
  · exact (Quiet.refl s).leaves

theorem execGuardTimerExpiry_quiet (s : State) : Answers (Quiet s) (execGuardTimerExpiry s) := by
  unfold execGuardTimerExpiry
  split
  · split
    · exact (s.changeGuard_quiet _).leaves
    · exact (s.changeGuard_quiet _).leaves
    · exact (Quiet.refl s).leaves
  · exact (Quiet.refl s).leaves

/-- What the mapper does with a notice leaves its line in hand, its waiting run and the frame open as they are. -/
theorem Mapper.notice?_quiet {s : State} {n : Notice} {m : Mapper} (h : s.mapper.notice? = some (n, m)) :
    Quiet s { s with mapper := m } := by
  unfold Mapper.notice? at h
  split at h <;> cases h
  exact .of_eq rfl rfl rfl

theorem execDropNotice_quiet (s : State) : Answers (Quiet s) (execDropNotice s) := by
  unfold execDropNotice
  split
  · next due =>
    refine Quiet.leaves ((Mapper.notice?_quiet due).trans ?_)
    exact .of_eq rfl rfl rfl
  · exact (Quiet.refl s).leaves

/-! ### The commands, one by one -/

/-- The commands that carry the traffic on, and the resets, which end it. -/
def carriesTraffic : Instr → Bool
  | .reset | .softReset | .fopen .. | .line .. | .fclose .. | .frameSetUp | .lineItem | .waitingRunPlaced | .frameEnd
  | .fillSweepRun | .postureNotice | .mapSetNotice | .guardStateNotice | .grant | .turnaroundDone | .windowAccepted
  | .reject | .retryDone | .holdLimit .. | .runFinished => true
  | _ => false

/-- Every other command leaves the traffic as it is. -/
theorem exec_quiet {c : Instr} (h : carriesTraffic c = false) (s : State) : Answers (Quiet s) (exec c s) := by
  cases c with
  | reset | softReset | fopen | line | fclose | frameSetUp | lineItem | waitingRunPlaced | frameEnd | fillSweepRun
  | postureNotice | mapSetNotice | guardStateNotice | grant | turnaroundDone | windowAccepted | reject | retryDone
  | holdLimit | runFinished => cases h
  | ctrl first code count operands => exact execCtrl_quiet first code count operands s
  | unknownCommand => exact execUnknownCommand_quiet s
  | slotClear => exact s.carryOut_quiet _ _ _ _ fun _ => editActions_quiet (by simp) _ s
  | slotZones => exact s.carryOut_quiet _ _ _ _ fun _ => editActions_quiet (by simp) _ s
  | entryPut => exact s.carryOut_quiet _ _ _ _ fun _ => editActions_quiet (by simp) _ s
  | entryDrop => exact s.carryOut_quiet _ _ _ _ fun _ => editActions_quiet (by simp) _ s
  | slotCheck => exact s.carryOut_quiet _ _ _ _ fun _ => slotCheckAction_quiet _ s
  | slotRead => exact s.carryOut_quiet _ _ _ _ fun _ => slotReadAction_quiet _ s
  | mapSet => exact s.carryOut_quiet _ _ _ _ fun _ => mapSetAction_quiet _ s
  | faceSet => exact s.carryOut_quiet _ _ _ _ fun _ => faceSetAction_quiet _ s
  | angleSet => exact s.carryOut_quiet _ _ _ _ fun _ => angleSetAction_quiet _ s
  | angleCal => exact s.carryOut_quiet _ _ _ _ fun _ => angleCalAction_quiet _ s
  | gainLoad => exact s.carryOut_quiet _ _ _ _ fun _ => gainLoadAction_quiet _ s
  | gainPoints => exact s.carryOut_quiet _ _ _ _ fun _ => gainPointsAction_quiet _ s
  | profileSet => exact s.carryOut_quiet _ _ _ _ fun _ => profileSetAction_quiet _ s
  | emitSet => exact s.carryOut_quiet _ _ _ _ fun _ => emitSetAction_quiet _ s
  | emitPeriod => exact s.carryOut_quiet _ _ _ _ fun _ => emitPeriodAction_quiet _ s
  | emitFade => exact s.carryOut_quiet _ _ _ _ fun _ => emitFadeAction_quiet _ s
  | guardSet => exact s.carryOut_quiet _ _ _ _ fun _ => guardSetAction_quiet _ s
  | reportRead => exact s.carryOut_quiet _ _ _ _ fun _ => reportReadAction_quiet _ s
  | attnSet => exact s.carryOut_quiet _ _ _ _ fun _ => attnSetAction_quiet _ s
  | statusRead => exact s.carryOut_quiet _ _ _ _ fun _ => .refl s
  | faultClear => exact s.carryOut_quiet _ _ _ _ fun _ => .of_eq rfl rfl rfl
  | imageReload => exact s.carryOut_quiet _ _ _ _ fun _ => .of_eq rfl rfl rfl
  | sampleTimerExpiry => exact execSampleTimerExpiry_quiet s
  | transactionStart => exact execTransactionStart_quiet s
  | arbitrationLost => exact execArbitrationLost_quiet s
  | sensorReadComplete first second lateLoss => exact execSensorReadComplete_quiet first second lateLoss s
  | nvmReadComplete bytes lateLoss => exact execNvmReadComplete_quiet bytes lateLoss s
  | nackAbort => exact execNackAbort_quiet s
  | stretchTimeout => exact execStretchTimeout_quiet s
  | totalTimeout sclHeldLow => exact execTotalTimeout_quiet sclHeldLow s
  | dropNotice => exact execDropNotice_quiet s
  | estopAsserted => exact Quiet.leaves (.after (State.estopActs_quiet _) (.of_eq rfl rfl rfl))
  | guardTimerExpiry => exact execGuardTimerExpiry_quiet s
  | otherPacket | busStartSeen | busStopSeen | busIdleTimeout | busLineLow | periodEnd | estopReleased | tick
  | attnPulseEnd => exact Quiet.leaves (.of_eq rfl rfl rfl)

end Sys2Proof.Machine
end

section
/-! How the traffic moves: everything that a packet of a frame, the mapper and the panel bus engine can do to it, said
once (R64 to R77, R83 to R101, R121 to R132). -/

namespace Sys2Proof.Machine

open Sys2Proof.Safety

/-! ### The packets of a frame (R68 to R77) -/

/-- What a packet of a frame can do to the intake: count, record or refuse without an item; place a line in a free slot;
end the open frame; open one. -/
inductive PacketMove (i i' : Intake) : Prop where
  | counted (state : i'.state = .receiving ↔ i.state = .receiving) (queue : i'.queue = i.queue)
      (reserved : i'.reserved = i.reserved) (lines : i'.lines = i.lines)
  | accepted {n : Fin 32} {row : Nat} {pixels : List Pixel} (was : i.state = .receiving) (room : i.heldItems < 40)
      (free : i.lines[n] = none) (state : i'.state = .receiving) (queue : i'.queue = i.queue ++ [.line n row])
      (reserved : i'.reserved = i.reserved) (lines : i'.lines = i.lines.set n (some ⟨pixels, true, 0⟩))
  | closed (was : i.state = .receiving) (state : i'.state = .idle) (queue : i'.queue = i.queue ++ [.frameEnd])
      (reserved : i'.reserved = false) (lines : i'.lines = i.lines)
  | opened {number : Word16} {width height : Nat} (was : i.state ≠ .receiving) (room : i.heldItems ≤ 38)
      (state : i'.state = .receiving) (queue : i'.queue = i.queue ++ [.frameStart number width height])
      (reserved : i'.reserved = true) (lines : i'.lines = i.lines)

theorem PacketMove.refl (i : Intake) : PacketMove i i := .counted .rfl rfl rfl rfl

/-- A line in RECEIVING is discarded or accepted (R74). -/
theorem Intake.takeLine_move {i : Intake} (receiving : i.state = .receiving) (row : Nat) (payload : List Pixel) :
    PacketMove i (i.takeLine row payload) := by
  have discarded : ∀ anomaly, PacketMove i (i.discard anomaly row) := fun _ => .counted .rfl rfl rfl rfl
  by_cases inFrame : row < i.header.height
  case neg =>
    rw [Intake.takeLine_rowRange (Nat.not_lt.mp inFrame)]
    exact discarded _
  by_cases inOrder : ∀ last, i.lastRow = some last → last < row
  case neg =>
    rw [Intake.takeLine_rowOrder inFrame inOrder]
    exact discarded _
  rw [Intake.takeLine_inOrder inFrame inOrder]
  split
  · exact discarded _
  · next room =>
    split
    · exact discarded _
    · next n free =>
      rw [Intake.acceptLine_eq]
      exact .accepted receiving (Nat.not_le.mp room) (Intake.free_of_lowestFree free) receiving rfl rfl rfl

/-- An FOPEN in IDLE refuses the frame, or opens it with room for its FRAME_START and its FRAME_END (R68). -/
theorem Intake.openFrame_move {i : Intake} (idle : i.state = .idle) (h : FrameHeader) :
    PacketMove i (i.openFrame h) := by
  by_cases good : h.Good
  case neg =>
    rw [i.openFrame_badGeometry good]
    exact .counted (by simp [idle]) rfl rfl rfl
  by_cases room : i.heldItems ≤ 38
  · rw [i.openFrame_accepted good room]
    exact .opened (by simp [idle]) room rfl rfl rfl rfl
  · rw [i.openFrame_noRoom good (Nat.not_le.mp room)]
    exact .counted (by simp [idle]) rfl rfl rfl

theorem State.offerIntake_quiet (s : State) : Quiet s s.offerIntake := by
  unfold State.offerIntake
  dsimp only
  split
  · exact .refl s
  · exact s.offer_quiet _

/-- At most two moves of the intake: an FOPEN may end one frame and open another (R69, R70). -/
def PacketMoves (s t : State) : Prop :=
  ∃ i₁ i₂, PacketMove s.intake i₁ ∧ PacketMove i₁ i₂ ∧ Quiet { s with intake := i₂ } t

theorem Quiet.packet {s t : State} {i : Intake} (quiet : Quiet { s with intake := i } t)
    (move : PacketMove s.intake i) : PacketMoves s t := ⟨s.intake, i, .refl _, move, quiet⟩

/-- An FOPEN in IDLE is one move (R68). -/
theorem exec_fopen_idle {s : State} (idle : s.intake.state = .idle) (frame width height : Word16) :
    Answers (fun t => ∃ i, PacketMove s.intake i ∧ Quiet { s with intake := i } t)
      (exec (.fopen frame width height) s) := by
  have opens : exec (.fopen frame width height) s = .next (State.fopenArrival
      { s with intake := s.intake.openFrame ⟨frame, width.toNat, height.toNat⟩ }) := by
    simp only [exec, execFopen, State.truncateFrame, idle]
  exact ⟨_, opens, _, Intake.openFrame_move idle _, State.fopenArrival_quiet _⟩

theorem exec_fopen_moves (frame width height : Word16) (s : State) :
    Answers (PacketMoves s) (exec (.fopen frame width height) s) := by
  obtain ⟨-, -, -, receiving, refusing⟩ := fopenEffect s frame width height
  cases state : s.intake.state with
  | idle =>
    exact (exec_fopen_idle state frame width height).mono fun t ⟨i, move, quiet⟩ => quiet.packet move
  | receiving =>
    rw [receiving state]
    refine (exec_fopen_idle (by rfl) frame width height).mono fun t ⟨i, move, quiet⟩ => ?_
    refine ⟨_, i, ?_, move, quiet.after (State.offer_quiet { s with intake := i } _)⟩
    exact .closed state rfl rfl rfl rfl
  | refusing =>
    rw [refusing state]
    refine (exec_fopen_idle (by rfl) frame width height).mono fun t ⟨i, move, quiet⟩ => ?_
    refine ⟨_, i, ?_, move, quiet.after (State.offer_quiet { s with intake := i } _)⟩
    exact .counted (by simp [state]) rfl rfl rfl

theorem exec_line_moves (row : Word16) (payload : List Pixel) (s : State) :
    Answers (PacketMoves s) (exec (.line row payload) s) := by
  obtain ⟨-, -, -, -, reported, first⟩ := lineDiscarded s row payload
  cases state : s.intake.state with
  | receiving =>
    rw [exec_line_receiving state]
    exact ⟨_, rfl, Quiet.packet (.refl _) (Intake.takeLine_move state row.toNat payload)⟩
  | refusing =>
    rw [exec_line_refusing state]
    exact ⟨_, rfl, Quiet.packet (.refl _) (.counted .rfl rfl rfl rfl)⟩
  | idle =>
    cases stray : s.intake.strayReported with
    | true =>
      rw [reported state stray]
      exact ⟨_, rfl, Quiet.packet (.refl s) (.refl _)⟩
    | false =>
      rw [first state stray]
      exact ⟨_, rfl, (State.offer_quiet ..).packet (.counted .rfl rfl rfl rfl)⟩

theorem exec_fclose_moves (linesSent : Word16) (s : State) :
    Answers (PacketMoves s) (exec (.fclose linesSent) s) := by
  simp only [exec, execFclose, Intake.compareLines_eq]
  split
  · exact ⟨_, rfl, Quiet.packet (.refl s) (.refl _)⟩
  · next state =>
    exact ⟨_, rfl, (State.offerIntake_quiet _).packet (.closed state rfl rfl rfl rfl)⟩
  · next state =>
    exact ⟨_, rfl, (State.offerIntake_quiet _).packet (.counted (by simp [state]) rfl rfl rfl)⟩

/-! ### Every move -/

/-- Everything that a command can do to the traffic. -/
inductive Move (s t : State) : Prop where
  | same (traffic : t.traffic = s.traffic)
  | reset (traffic : t.traffic = State.reset.traffic)
  | packets {i₁ i₂ : Intake} (first : PacketMove s.intake i₁) (second : PacketMove i₁ i₂)
      (traffic : t.traffic = State.traffic { s with intake := i₂ })
  /-- FRAME_SET_UP (R84, R97, R112). -/
  | frameSetUp {number : Word16} {width height w : Nat} {rest : List IntakeItem} {f : FrameInHand}
      (takes : s.mapper.takesItems = true) (item : s.intake.queue = .frameStart number width height :: rest)
      (traffic : t.traffic = State.traffic { s.takeItem rest with
        mapper := { s.mapper.withdrawFill with frameOpen := true, frameInHand := some f }
        gain := s.gain.takeSnapshot w })
  /-- LINE_ITEM (R88). -/
  | lineTaken {slot : Fin 32} {row : Nat} {rest : List IntakeItem} {f : FrameInHand}
      (takes : s.mapper.takesItems = true) (item : s.intake.queue = .line slot row :: rest)
      (inHand : s.mapper.frameInHand = some f)
      (traffic : t.traffic = State.traffic (State.examineLine
        { s.takeItem rest with mapper := { s.mapper with lineInHand := some ⟨slot, row, 0⟩ } } f ⟨slot, row, 0⟩))
  /-- FRAME_END (R93). -/
  | frameEnded {rest : List IntakeItem} (takes : s.mapper.takesItems = true)
      (item : s.intake.queue = .frameEnd :: rest)
      (traffic : t.traffic = State.traffic { s.takeItem rest with mapper := { s.mapper with frameOpen := false } })
  /-- A fill run is placed by the sweep (R96). -/
  | fillPlaced (item : FillItem) (row : Nat) (room : s.engine.hasRoom item.driver = true)
      (traffic : t.traffic = State.traffic (s.placeRun (item.run row)))
  /-- A fill run of the sweep waits (R96). -/
  | fillWaits (item : FillItem) (row : Nat) (runs : s.sweepRuns = true)
      (traffic : t.traffic = State.traffic
        { s with mapper := { s.mapper with waitingRun := some (item.run row) } })
  /-- A waiting run is placed and nothing follows (R91, R96). -/
  | waitingPlaced {r : Run} (waits : s.mapper.waitingRun = some r) (room : s.engine.hasRoom r.driver = true)
      (alone : r.isFill = true ∨ s.mapper.lineInHand = none ∨ s.mapper.frameInHand = none)
      (traffic : t.traffic = State.traffic
        (State.placeRun { s with mapper := { s.mapper with waitingRun := none } } r))
  /-- A waiting copy run is placed and its line is examined on (R91). -/
  | lineGoesOn {r : Run} {l : LineInHand} {f : FrameInHand} (waits : s.mapper.waitingRun = some r)
      (room : s.engine.hasRoom r.driver = true) (isCopy : r.isFill = false) (line : s.mapper.lineInHand = some l)
      (inHand : s.mapper.frameInHand = some f)
      (traffic : t.traffic = State.traffic (State.examineLine
        (State.placeRun { s with mapper := { s.mapper with waitingRun := none } } r) f l))
  /-- A standalone apply withdraws a waiting fill run (R101). -/
  | withdrawn (traffic : t.traffic = State.traffic { s with mapper := s.mapper.withdrawFill })
  /-- GRANT (R123). -/
  | granted {d : Driver} {r : Run} {rest : List Run} (idle : s.engine.phase = .idle)
      (head : s.engine.queues.get d = r :: rest)
      (traffic : t.traffic = State.traffic { s with engine := s.engine.grantRun d r rest })
  /-- A WINDOW starts after TURNAROUND or RETRY (R126, R128). -/
  | windowStarts {r : Run} {owed : Nat} (waits : s.engine.phase = .turnaround owed ∨ s.engine.phase = .retry owed)
      (run : s.engine.inTransfer = some r)
      (traffic : t.traffic = State.traffic { s with engine := s.engine.startWindow r })
  /-- WINDOW_ACCEPTED (R127). -/
  | windowAccepted {r : Run} (window : s.engine.phase = .window) (run : s.engine.inTransfer = some r)
      (traffic : t.traffic = State.traffic { s with engine := { s.engine with phase := .data } })
  /-- A REJECT after attempts 1 to 3 (R128). -/
  | rejected {r : Run} (owed : Nat) (window : s.engine.phase = .window) (run : s.engine.inTransfer = some r)
      (again : r.attempts < 4)
      (traffic : t.traffic = State.traffic { s with engine := { s.engine with phase := .retry owed } })
  /-- A run finishes or is dropped (R130, R132). -/
  | ended {r : Run} (run : s.engine.inTransfer = some r) (traffic : t.traffic = State.traffic (s.closeRun r))

/-- A move of the traffic, with the command queue and the report queue within their bounds. -/
structure Moves (s t : State) : Prop where
  move : Move s t
  bounded : Bounded s t

theorem Quiet.moves {s t : State} (quiet : Quiet s t) : Moves s t := ⟨.same quiet.traffic, quiet.bounded⟩

theorem PacketMoves.toMoves {s t : State} : PacketMoves s t → Moves s t
  | ⟨_, _, first, second, quiet⟩ => ⟨.packets first second quiet.traffic, quiet.bounded.since rfl rfl⟩

/-! ### Resets (R80, R169) -/

theorem State.resetPart_quiet (s : State) : Quiet State.reset s.resetPart :=
  .after (State.estopActs_quiet _) (.of_eq rfl rfl rfl)

theorem State.resetPart_moves (s u : State) : Moves s u.resetPart where
  move := .reset u.resetPart_quiet.traffic
  bounded := ⟨fun _ => u.resetPart_quiet.bounded.commands reset_capacityLaw.commands,
    fun _ => u.resetPart_quiet.bounded.records reset_capacityLaw.records⟩

theorem execSoftReset_moves (s : State) : Answers (Moves s) (execSoftReset s) := by
  unfold execSoftReset
  split
  · exact ⟨_, rfl, (Quiet.refl s).moves⟩
  · exact ⟨_, rfl, (s.respond_quiet ..).moves⟩
  · exact ⟨_, rfl, s.resetPart_moves _⟩

/-! ### The mapper (R83 to R101) -/

/-- What a frame set-up does to the traffic (R84, R112). -/
theorem State.setUpFrame_quiet (s : State) (number : Word16) (width height : Nat) :
    ∃ f, Quiet
      { s with
        mapper := { s.mapper with frameOpen := true, frameInHand := some f }
        gain := s.gain.takeSnapshot s.posture.w }
      (s.setUpFrame number width height) := by
  refine ⟨⟨number, width, height, (s.gain.takeSnapshot s.posture.w).current⟩, ?_⟩
  unfold State.setUpFrame
  dsimp only
  split
  · exact .after (State.offer_quiet ..) (.of_eq rfl rfl rfl)
  · exact .of_eq rfl rfl rfl

theorem execFrameSetUp_moves (s : State) : Answers (Moves s) (execFrameSetUp s) := by
  unfold execFrameSetUp
  split
  · next takes item =>
    obtain ⟨f, quiet⟩ := State.setUpFrame_quiet { s.takeItem _ with mapper := s.mapper.withdrawFill } _ _ _
    exact ⟨_, rfl, .frameSetUp takes item quiet.traffic, quiet.bounded.since rfl rfl⟩
  · exact ⟨_, rfl, (Quiet.refl s).moves⟩

/-- The examination of a line has no part in the command queue and the report queue. -/
theorem State.examineLine_bounded (s : State) (f : FrameInHand) (l : LineInHand) :
    Bounded s (s.examineLine f l) := by
  obtain ⟨-, -, -, -, -, control, reports, -⟩ := examineEntries_frame s.mapper.copy.modes f l.slot l.row
    (s.mapper.copy.entries.drop l.next) l.next s
  exact .of_eq control (congrArg Reports.records reports)

theorem execLineItem_moves (s : State) : Answers (Moves s) (execLineItem s) := by
  unfold execLineItem
  split
  · next takes item inHand =>
    exact ⟨_, rfl, .lineTaken takes item inHand rfl, (State.examineLine_bounded ..).since rfl rfl⟩
  · exact ⟨_, rfl, (Quiet.refl s).moves⟩

theorem execFrameEnd_moves (s : State) : Answers (Moves s) (execFrameEnd s) := by
  unfold execFrameEnd
  split
  · next takes item => exact ⟨_, rfl, .frameEnded takes item rfl, .of_eq rfl rfl⟩
  · exact ⟨_, rfl, (Quiet.refl s).moves⟩

theorem execFillSweepRun_moves (s : State) : Answers (Moves s) (execFillSweepRun s) := by
  unfold execFillSweepRun
  split
  · next runs _ =>
    split
    · exact ⟨_, rfl, (Quiet.refl s).moves⟩
    · dsimp only
      split
      · next room => exact ⟨_, rfl, .fillPlaced _ _ room rfl, .of_eq rfl rfl⟩
      · exact ⟨_, rfl, .fillWaits _ _ runs rfl, .of_eq rfl rfl⟩
  · exact ⟨_, rfl, (Quiet.refl s).moves⟩

theorem execWaitingRunPlaced_moves (s : State) : Answers (Moves s) (execWaitingRunPlaced s) := by
  unfold execWaitingRunPlaced
  split
  · exact ⟨_, rfl, (Quiet.refl s).moves⟩
  · next r waits =>
    split
    · next room =>
      dsimp only
      split
      · next isFill => exact ⟨_, rfl, .waitingPlaced waits room (.inl isFill) rfl, .of_eq rfl rfl⟩
      · next isCopy =>
        split
        · next line inHand =>
          exact ⟨_, rfl, .lineGoesOn waits room (by simpa using isCopy) line inHand rfl,
            (State.examineLine_bounded ..).since rfl rfl⟩
        · next noLine =>
          have alone : s.mapper.lineInHand = none ∨ s.mapper.frameInHand = none := by
            cases line : s.mapper.lineInHand with
            | none => exact .inl rfl
            | some l =>
              cases inHand : s.mapper.frameInHand with
              | none => exact .inr rfl
              | some f => exact absurd inHand (noLine l f line)
          exact ⟨_, rfl, .waitingPlaced waits room (.inr alone) rfl, .of_eq rfl rfl⟩
    · exact ⟨_, rfl, (Quiet.refl s).moves⟩

/-- A standalone apply withdraws a waiting fill run, and has no other part in the traffic (R100, R101). -/
theorem State.standaloneApply_quiet (s : State) :
    Quiet { s with mapper := s.mapper.withdrawFill } s.standaloneApply := by
  unfold State.standaloneApply
  dsimp only
  refine .after (State.offer_quiet ..) ?_
  split <;> exact .of_eq rfl rfl rfl

/-- What acting on a notice does to the traffic: nothing, or a waiting fill run is withdrawn. -/
def NoticeMove (s t : State) : Prop := Quiet s t ∨ Quiet { s with mapper := s.mapper.withdrawFill } t

theorem NoticeMove.moves {s t : State} : NoticeMove s t → Moves s t
  | .inl quiet => quiet.moves
  | .inr quiet => ⟨.withdrawn quiet.traffic, quiet.bounded.since rfl rfl⟩

/-- The notice taken leaves the list first. -/
theorem NoticeMove.of_notice {s t : State} {n : Notice} {m : Mapper} (due : s.mapper.notice? = some (n, m))
    (acts : NoticeMove { s with mapper := m } t) : NoticeMove s t := by
  unfold Mapper.notice? at due
  split at due <;> cases due
  exact acts.imp (fun quiet => quiet.after (.of_eq rfl rfl rfl)) fun quiet => quiet.after (.of_eq rfl rfl rfl)

theorem State.layoutNotice_move (s : State) : NoticeMove s s.layoutNotice := by
  unfold State.layoutNotice
  split
  · exact .inl (.of_eq rfl rfl rfl)
  · exact .inr s.standaloneApply_quiet
  · exact .inr s.standaloneApply_quiet

theorem State.guardNotice_move (s : State) (new : GuardState) : NoticeMove s (s.guardNotice new) := by
  unfold State.guardNotice
  dsimp only
  split
  · exact .inr (.after (State.standaloneApply_quiet _) (.of_eq rfl rfl rfl))
  · exact .inl (.of_eq rfl rfl rfl)

theorem execPostureNotice_moves (s : State) : Answers (Moves s) (execPostureNotice s) := by
  unfold execPostureNotice
  split
  · next due => exact ⟨_, rfl, (NoticeMove.of_notice due (State.layoutNotice_move _)).moves⟩
  · exact ⟨_, rfl, (Quiet.refl s).moves⟩

theorem execMapSetNotice_moves (s : State) : Answers (Moves s) (execMapSetNotice s) := by
  unfold execMapSetNotice
  split
  · next due => exact ⟨_, rfl, (NoticeMove.of_notice due (State.layoutNotice_move _)).moves⟩
  · exact ⟨_, rfl, (Quiet.refl s).moves⟩

theorem execGuardStateNotice_moves (s : State) : Answers (Moves s) (execGuardStateNotice s) := by
  unfold execGuardStateNotice
  split
  · next due => exact ⟨_, rfl, (NoticeMove.of_notice due (State.guardNotice_move ..)).moves⟩
  · exact ⟨_, rfl, (Quiet.refl s).moves⟩

/-! ### The panel bus (R121 to R132) -/

theorem execGrant_moves (s : State) : Answers (Moves s) (execGrant s) := by
  unfold execGrant
  split
  · next idle _ =>
    split
    · next head => exact ⟨_, rfl, .granted idle head rfl, .of_eq rfl rfl⟩
    · exact ⟨_, rfl, (Quiet.refl s).moves⟩
  · exact ⟨_, rfl, (Quiet.refl s).moves⟩

theorem execTurnaroundDone_moves (s : State) : Answers (Moves s) (execTurnaroundDone s) := by
  unfold execTurnaroundDone
  split
  · next waits run => exact ⟨_, rfl, .windowStarts (.inl waits) run rfl, .of_eq rfl rfl⟩
  · exact ⟨_, rfl, (Quiet.refl s).moves⟩

theorem execRetryDone_moves (s : State) : Answers (Moves s) (execRetryDone s) := by
  unfold execRetryDone
  split
  · next waits run => exact ⟨_, rfl, .windowStarts (.inr waits) run rfl, .of_eq rfl rfl⟩
  · exact ⟨_, rfl, (Quiet.refl s).moves⟩

theorem execWindowAccepted_moves (s : State) : Answers (Moves s) (execWindowAccepted s) := by
  unfold execWindowAccepted
  split
  · next window run => exact ⟨_, rfl, .windowAccepted window run rfl, .of_eq rfl rfl⟩
  · exact ⟨_, rfl, (Quiet.refl s).moves⟩

/-- A dropped run has ended; the flag, the record and the notice are no part of the traffic (R132 to R134). -/
theorem State.dropRun_quiet (s : State) (r : Run) (code : FaultCode) : Quiet (s.closeRun r) (s.dropRun r code) :=
  .after (State.notify_quiet ..) (.after (State.offer_quiet ..) (.of_eq rfl rfl rfl))

/-- The end of a run, dropped or finished, from a state with the same traffic. -/
theorem Quiet.runEnds {s u t : State} {r : Run} (quiet : Quiet (u.closeRun r) t) (run : s.engine.inTransfer = some r)
    (traffic : (u.closeRun r).traffic = (s.closeRun r).traffic) (control : u.control = s.control)
    (reports : u.reports = s.reports) : Moves s t :=
  ⟨.ended run (quiet.traffic.trans traffic), quiet.bounded.since control (congrArg Reports.records reports)⟩

theorem execReject_moves (s : State) : Answers (Moves s) (execReject s) := by
  unfold execReject State.rejectRun
  split
  · next window run =>
    split
    · dsimp only
      split
      · next again => exact ⟨_, rfl, .rejected _ window run again rfl, .of_eq rfl rfl⟩
      · exact ⟨_, rfl, (State.dropRun_quiet ..).runEnds run rfl rfl rfl⟩
    · exact ⟨_, rfl, (Quiet.refl s).moves⟩
  · exact ⟨_, rfl, (Quiet.refl s).moves⟩

theorem execHoldLimit_moves (pairsDone : Nat) (s : State) : Answers (Moves s) (execHoldLimit pairsDone s) := by
  unfold execHoldLimit
  dsimp only
  split
  · next _ run =>
    split
    · exact ⟨_, rfl, (State.dropRun_quiet ..).runEnds run rfl rfl rfl⟩
    · exact ⟨_, rfl, (Quiet.refl s).moves⟩
  · next _ run =>
    split
    · exact ⟨_, rfl, (State.dropRun_quiet ..).runEnds run rfl rfl rfl⟩
    · exact ⟨_, rfl, (Quiet.refl s).moves⟩
  · exact ⟨_, rfl, (Quiet.refl s).moves⟩

theorem execRunFinished_moves (s : State) : Answers (Moves s) (execRunFinished s) := by
  unfold execRunFinished
  split
  · next run => exact ⟨_, rfl, (Quiet.refl (State.closeRun _ _)).runEnds run rfl rfl rfl⟩
  · exact ⟨_, rfl, (Quiet.refl s).moves⟩

/-! ### The commands, one by one -/

/-- Whatever a command does to the traffic is one of the moves. -/
theorem exec_moves (c : Instr) (s : State) : Answers (Moves s) (exec c s) := by
  cases c with
  | reset => exact ⟨_, rfl, s.resetPart_moves s⟩
  | softReset => exact execSoftReset_moves s
  | fopen frame width height => exact (exec_fopen_moves frame width height s).mono fun _ => PacketMoves.toMoves
  | line row payload => exact (exec_line_moves row payload s).mono fun _ => PacketMoves.toMoves
  | fclose linesSent => exact (exec_fclose_moves linesSent s).mono fun _ => PacketMoves.toMoves
  | frameSetUp => exact execFrameSetUp_moves s
  | lineItem => exact execLineItem_moves s
  | waitingRunPlaced => exact execWaitingRunPlaced_moves s
  | frameEnd => exact execFrameEnd_moves s
  | fillSweepRun => exact execFillSweepRun_moves s
  | postureNotice => exact execPostureNotice_moves s
  | mapSetNotice => exact execMapSetNotice_moves s
  | guardStateNotice => exact execGuardStateNotice_moves s
  | grant => exact execGrant_moves s
  | turnaroundDone => exact execTurnaroundDone_moves s
  | windowAccepted => exact execWindowAccepted_moves s
  | reject => exact execReject_moves s
  | retryDone => exact execRetryDone_moves s
  | holdLimit pairsDone => exact execHoldLimit_moves pairsDone s
  | runFinished => exact execRunFinished_moves s
  | _ => exact (exec_quiet rfl s).mono fun _ => Quiet.moves

/-- What does not read the waiting commands, what idling keeps and what every move keeps, a step keeps. -/
theorem step_keeps_of_moves {P : State → Prop} (idle : ∀ s : State, P s → P s.timePasses)
    (taken : ∀ (s : State) (rest : List Instr), P s → P { s with pending := rest })
    (moved : ∀ s t : State, P s → Moves s t → P t) {s t : State} (h : P s) (hstep : step s = .next t) : P t :=
  step_keeps idle taken (fun c s h => (exec_moves c s).mono fun t => moved s t h) h hstep

end Sys2Proof.Machine
end

section
/-! Every step keeps the order of the intake queue, and every queue within its capacity (R66, R83, R121, R164, R173). -/

namespace Sys2Proof.Machine

open Sys2Proof.Safety

/-! ### The account of frames (R66) -/

/-- The account of a queue is read on from where the account of its first part ends. -/
theorem frameAccount_append (isOpen : Bool) (xs ys : List IntakeItem) :
    frameAccount isOpen (xs ++ ys) = (frameAccount isOpen xs).bind (frameAccount · ys) := by
  induction xs generalizing isOpen with
  | nil => cases isOpen <;> rfl
  | cons x xs ih =>
    cases isOpen <;> cases x <;> simp [frameAccount, ih]

/-- The account of the items held ends with a frame open exactly in RECEIVING. -/
def Intake.Accounts (i : Intake) (isOpen : Bool) : Prop :=
  frameAccount isOpen i.queue = some (decide (i.state = .receiving))

/-- A packet of a frame keeps the account: a line and a FRAME_END come in RECEIVING alone, a FRAME_START outside it. -/
theorem PacketMove.accounts {i i' : Intake} (move : PacketMove i i') {isOpen : Bool} (h : i.Accounts isOpen) :
    i'.Accounts isOpen := by
  unfold Intake.Accounts at *
  cases move with
  | counted state queue =>
    rw [queue, h]
    simp [state]
  | accepted was _ _ state queue =>
    rw [queue, frameAccount_append, h]
    simp [was, state, frameAccount]
  | closed was state queue =>
    rw [queue, frameAccount_append, h]
    simp [was, state, frameAccount]
  | opened was _ state queue =>
    rw [queue, frameAccount_append, h]
    simp [was, state, frameAccount]

/-- A FRAME_START at the head is found with no frame open. -/
theorem frameAccount_frameStart {isOpen end_ : Bool} {number : Word16} {width height : Nat} {rest : List IntakeItem}
    (h : frameAccount isOpen (.frameStart number width height :: rest) = some end_) :
    frameAccount true rest = some end_ := by
  cases isOpen with
  | false => exact h
  | true => cases h

/-- A LINE item at the head is found with a frame open. -/
theorem frameAccount_line {isOpen end_ : Bool} {slot : Fin 32} {row : Nat} {rest : List IntakeItem}
    (h : frameAccount isOpen (.line slot row :: rest) = some end_) :
    isOpen = true ∧ frameAccount true rest = some end_ := by
  cases isOpen with
  | false => cases h
  | true => exact ⟨rfl, h⟩

/-- So is a FRAME_END. -/
theorem frameAccount_frameEnd {isOpen end_ : Bool} {rest : List IntakeItem}
    (h : frameAccount isOpen (.frameEnd :: rest) = some end_) : frameAccount false rest = some end_ := by
  cases isOpen with
  | false => cases h
  | true => exact h

/-! ### The account law -/

theorem accountLaw_of_eq {s t : State} (law : AccountLaw s) (queue : t.intake.queue = s.intake.queue)
    (state : t.intake.state = s.intake.state) (frameOpen : t.mapper.frameOpen = s.mapper.frameOpen)
    (frameInHand : t.mapper.frameInHand = s.mapper.frameInHand)
    (lineInHand : t.mapper.lineInHand = s.mapper.lineInHand)
    (waitingRun : t.mapper.waitingRun = s.mapper.waitingRun) : AccountLaw t := by
  unfold AccountLaw at *
  rw [queue, state, frameOpen, frameInHand, lineInHand, waitingRun]
  exact law

theorem accountLaw_of_traffic {s t : State} (traffic : t.traffic = s.traffic) (law : AccountLaw s) : AccountLaw t :=
  accountLaw_of_eq law (congrArg (·.intake.queue) traffic) (congrArg (·.intake.state) traffic)
    (congrArg Traffic.frameOpen traffic) (congrArg Traffic.frameInHand traffic) (congrArg Traffic.lineInHand traffic)
    (congrArg Traffic.waitingRun traffic)

/-- When the mapper takes an item (R83, R91). -/
theorem Mapper.takesItems_iff (m : Mapper) :
    m.takesItems = true ↔
      m.lineInHand = none ∧ (∀ r, m.waitingRun = some r → r.isFill = true) ∧ m.notices = [] := by
  unfold Mapper.takesItems
  cases m.waitingRun <;> simp [and_assoc]

/-- What waits after a withdrawal waited before, and is no fill run (R97, R101). -/
theorem Mapper.withdrawFill_waits {m : Mapper} {r : Run} :
    m.withdrawFill.waitingRun = some r ↔ m.waitingRun = some r ∧ r.isFill = false := by
  simp [Mapper.withdrawFill, Option.filter_eq_some_iff]

/-- With no line in hand and no copy run waiting, the mapper's part of the law is that a frame open is in hand. -/
theorem accountLaw_of_no_line {s : State} (account : s.intake.Accounts s.mapper.frameOpen)
    (inHand : s.mapper.frameOpen = true → s.mapper.frameInHand.isSome = true) (noLine : s.mapper.lineInHand = none)
    (noCopy : ∀ r, s.mapper.waitingRun = some r → r.isFill = true) : AccountLaw s := by
  refine ⟨account, inHand, fun line => ?_, iff_of_false ?_ ?_⟩
  · rw [noLine] at line
    cases line
  · rw [noLine]
    decide
  · rintro ⟨r, waits, isCopy⟩
    rw [noCopy r waits] at isCopy
    cases isCopy

/-- A frame is open and in hand, and no copy run waits: the mapper can examine a line. -/
structure LineOpen (s : State) : Prop where
  account : s.intake.Accounts true
  frameOpen : s.mapper.frameOpen = true
  inHand : s.mapper.frameInHand.isSome = true
  noCopy : ∀ r, s.mapper.waitingRun = some r → r.isFill = true

/-- The examination ends with no line in hand and no copy run waiting, or with both (R91, R92). -/
theorem LineOpen.examineLine {s : State} (h : LineOpen s) (f : FrameInHand) (l : LineInHand) :
    AccountLaw (s.examineLine f l) := by
  refine examineEntries_induction (P := LineOpen) (Q := AccountLaw) s.mapper.copy.modes f l.slot l.row
    (fun t r e ht _ _ => ⟨?_, ht.frameOpen, ht.inHand, ht.noCopy⟩) (fun t ht => ?_)
    (fun t r e i ht gives _ => ?_) _ _ _ h
  · rw [t.placeRun_intake r]
    exact ht.account
  · refine accountLaw_of_no_line ?_ (fun _ => ht.inHand) rfl ht.noCopy
    show Intake.Accounts _ t.mapper.frameOpen
    rw [ht.frameOpen]
    exact ht.account
  · refine ⟨?_, fun _ => ht.inHand, fun _ => ht.frameOpen, iff_of_true rfl ⟨r, rfl, (copyRun_of_some gives).isCopy⟩⟩
    show frameAccount t.mapper.frameOpen t.intake.queue = _
    rw [ht.frameOpen]
    exact ht.account

/-- With the account law, a copy run waits exactly when a line is in hand, and then a frame is in hand too. -/
theorem lineInHand_none_of_accountLaw {s : State} (law : AccountLaw s) {r : Run} (waits : s.mapper.waitingRun = some r)
    (alone : r.isFill = true ∨ s.mapper.lineInHand = none ∨ s.mapper.frameInHand = none) :
    s.mapper.lineInHand = none := by
  obtain ⟨-, inHand, opened, copyWaits⟩ := law
  rw [← Option.not_isSome_iff_eq_none]
  intro line
  rcases alone with isFill | noLine | noFrame
  · obtain ⟨r', waits', isCopy⟩ := copyWaits.mp line
    obtain rfl : r = r' := Option.some.inj (waits.symm.trans waits')
    rw [isFill] at isCopy
    cases isCopy
  · rw [noLine] at line
    cases line
  · have := inHand (opened line)
    rw [noFrame] at this
    cases this

/-- Every move keeps the account law. -/
theorem Move.keepsAccount {s t : State} (move : Move s t) (law : AccountLaw s) : AccountLaw t := by
  obtain ⟨account, inHand, opened, copyWaits⟩ := id law
  cases move with
  | same traffic => exact accountLaw_of_traffic traffic law
  | reset traffic => exact accountLaw_of_traffic traffic reset_accountLaw
  | packets first second traffic =>
    exact accountLaw_of_traffic traffic ⟨second.accounts (first.accounts account), inHand, opened, copyWaits⟩
  | frameSetUp takes item traffic =>
    obtain ⟨noLine, noCopy, -⟩ := s.mapper.takesItems_iff.mp takes
    rw [item] at account
    exact accountLaw_of_traffic traffic (accountLaw_of_no_line (frameAccount_frameStart account) (fun _ => rfl) noLine
      fun r waits => noCopy r (Mapper.withdrawFill_waits.mp waits).1)
  | lineTaken takes item hand traffic =>
    obtain ⟨-, noCopy, -⟩ := s.mapper.takesItems_iff.mp takes
    rw [item] at account
    obtain ⟨isOpen, account⟩ := frameAccount_line account
    refine accountLaw_of_traffic traffic (LineOpen.examineLine ?_ _ _)
    exact ⟨account, isOpen, by simp [hand], noCopy⟩
  | frameEnded takes item traffic =>
    obtain ⟨noLine, noCopy, -⟩ := s.mapper.takesItems_iff.mp takes
    rw [item] at account
    exact accountLaw_of_traffic traffic
      (accountLaw_of_no_line (frameAccount_frameEnd account) nofun noLine noCopy)
  | fillPlaced item row room traffic =>
    refine accountLaw_of_traffic traffic (accountLaw_of_eq law ?_ ?_ rfl rfl rfl rfl) <;> rw [State.placeRun_intake]
  | fillWaits item row runs traffic =>
    have noLine : s.mapper.lineInHand = none := by
      simp only [State.sweepRuns, Bool.and_eq_true, Option.isNone_iff_eq_none] at runs
      exact runs.1.1.2
    refine accountLaw_of_traffic traffic (accountLaw_of_no_line account inHand noLine fun r waits => ?_)
    cases waits
    rfl
  | waitingPlaced waits room alone traffic =>
    have noLine := lineInHand_none_of_accountLaw law waits alone
    refine accountLaw_of_traffic traffic (accountLaw_of_no_line ?_ inHand noLine fun _ waits => by cases waits)
    rw [State.placeRun_intake]
    exact account
  | lineGoesOn waits room isCopy line hand traffic =>
    have isOpen : s.mapper.frameOpen = true := opened (by simp [line])
    refine accountLaw_of_traffic traffic (LineOpen.examineLine ?_ _ _)
    refine ⟨?_, isOpen, by simp [hand], fun _ waits => by cases waits⟩
    rw [State.placeRun_intake, ← isOpen]
    exact account
  | withdrawn traffic =>
    refine accountLaw_of_traffic traffic ⟨account, inHand, opened, copyWaits.trans ⟨?_, ?_⟩⟩
    · rintro ⟨r, waits, isCopy⟩
      exact ⟨r, Mapper.withdrawFill_waits.mpr ⟨waits, isCopy⟩, isCopy⟩
    · rintro ⟨r, waits, isCopy⟩
      exact ⟨r, (Mapper.withdrawFill_waits.mp waits).1, isCopy⟩
  | granted _ _ traffic | windowStarts _ _ traffic | windowAccepted _ _ traffic | rejected _ _ _ _ traffic =>
    exact accountLaw_of_traffic traffic law
  | ended _ traffic =>
    refine accountLaw_of_traffic traffic (accountLaw_of_eq law ?_ ?_ rfl rfl rfl rfl) <;>
      rw [State.closeRun_intake, State.releaseRunRefs_intake]

/-! ### Capacities -/

/-- The intake queue is within its capacity, with an item reserved exactly in RECEIVING (R66). -/
structure Intake.Within (i : Intake) : Prop where
  items : i.heldItems ≤ 40
  reservation : i.reserved = true ↔ i.state = .receiving

/-- No run queue holds more than 8 (R121). -/
def QueuesWithin (queues : PerZone (List Run)) : Prop := ∀ d : Driver, (queues.get d).length ≤ 8

/-- The queues of the traffic are within their capacities. -/
structure Within (s : State) : Prop where
  intake : s.intake.Within
  queues : QueuesWithin s.engine.queues

theorem capacityLaw_iff (s : State) :
    CapacityLaw s ↔ (s.control.queue.length ≤ 8 ∧ s.reports.occupancy ≤ 512) ∧ Within s :=
  ⟨fun ⟨commands, items, reservation, runs, records⟩ => ⟨⟨commands, records⟩, ⟨items, reservation⟩, runs⟩,
    fun ⟨⟨commands, records⟩, ⟨items, reservation⟩, runs⟩ => ⟨commands, items, reservation, runs, records⟩⟩

theorem within_of_eq {s t : State} (h : Within s) (queue : t.intake.queue = s.intake.queue)
    (reserved : t.intake.reserved = s.intake.reserved) (state : t.intake.state = s.intake.state)
    (queues : t.engine.queues = s.engine.queues) : Within t := by
  obtain ⟨⟨items, reservation⟩, runs⟩ := h
  refine ⟨⟨?_, ?_⟩, ?_⟩
  · rw [Intake.heldItems, queue, reserved]
    exact items
  · rw [reserved, state]
    exact reservation
  · rw [queues]
    exact runs

theorem within_of_traffic {s t : State} (traffic : t.traffic = s.traffic) (h : Within s) : Within t :=
  within_of_eq h (congrArg (·.intake.queue) traffic) (congrArg (·.intake.reserved) traffic)
    (congrArg (·.intake.state) traffic) (congrArg Traffic.queues traffic)

/-- A packet places an item only where there is room for it and for a FRAME_END (R66). -/
theorem PacketMove.within {i i' : Intake} (move : PacketMove i i') (h : i.Within) : i'.Within := by
  obtain ⟨items, reservation⟩ := h
  unfold Intake.heldItems at items
  cases move with
  | counted state queue reserved =>
    refine ⟨?_, ?_⟩
    · rw [Intake.heldItems, queue, reserved]
      exact items
    · rw [reserved, state]
      exact reservation
  | accepted was room _ state queue reserved =>
    unfold Intake.heldItems at room
    refine ⟨?_, by rw [reserved, reservation, was, state]⟩
    rw [Intake.heldItems, queue, reserved, List.length_append, List.length_singleton]
    omega
  | closed was state queue reserved =>
    rw [if_pos (reservation.mpr was)] at items
    refine ⟨?_, by simp [reserved, state]⟩
    rw [Intake.heldItems, queue, reserved, List.length_append, List.length_singleton]
    exact items
  | opened was room state queue reserved =>
    unfold Intake.heldItems at room
    refine ⟨?_, by simp [reserved, state]⟩
    rw [Intake.heldItems, queue, reserved, if_pos rfl, List.length_append, List.length_singleton]
    omega

/-- An item that leaves makes room. -/
theorem Within.takeItem {s : State} (h : Within s) {item : IntakeItem} {rest : List IntakeItem}
    (head : s.intake.queue = item :: rest) : Within (s.takeItem rest) := by
  obtain ⟨⟨items, reservation⟩, runs⟩ := h
  refine ⟨⟨?_, reservation⟩, runs⟩
  rw [Intake.heldItems, head, List.length_cons] at items
  show rest.length + (if s.intake.reserved = true then 1 else 0) ≤ 40
  omega

/-- A run is placed only where there is room (R91, R95, R121). -/
theorem Within.placeRun {s : State} (h : Within s) {r : Run} (room : s.engine.hasRoom r.driver = true) :
    Within (s.placeRun r) := by
  refine ⟨?_, fun d => ?_⟩
  · rw [State.placeRun_intake]
    exact ⟨h.intake.items, h.intake.reservation⟩
  · rw [s.placeRun_queue]
    split
    · rw [List.length_append, List.length_singleton]
      exact (s.engine.hasRoom_iff _).mp room
    · exact h.queues d

theorem Within.examineLine {s : State} (h : Within s) (f : FrameInHand) (l : LineInHand) :
    Within (s.examineLine f l) :=
  examineEntries_induction (P := Within) (Q := Within) s.mapper.copy.modes f l.slot l.row
    (fun _ _ _ ht _ room => ht.placeRun room) (fun _ ht => within_of_eq ht rfl rfl rfl rfl)
    (fun _ _ _ _ ht _ _ => within_of_eq ht rfl rfl rfl rfl) _ _ _ h

/-- A granted run leaves its queue (R123). -/
theorem Engine.grantRun_queues (e : Engine) (d : Driver) (r : Run) (rest : List Run) :
    (e.grantRun d r rest).queues = e.queues.set d rest := by
  unfold Engine.grantRun
  dsimp only
  split <;> rfl

theorem QueuesWithin.granted {queues : PerZone (List Run)} (h : QueuesWithin queues) {d : Driver} {r : Run}
    {rest : List Run} (head : queues.get d = r :: rest) : QueuesWithin (queues.set d rest) := by
  intro d'
  by_cases same : d' = d
  · subst same
    have := h d'
    rw [head, List.length_cons] at this
    rw [PerZone.get_set_same]
    omega
  · rw [PerZone.get_set_other _ _ same]
    exact h d'

/-- Every move keeps the queues within their capacities. -/
theorem Move.keepsWithin {s t : State} (move : Move s t) (h : Within s) : Within t := by
  cases move with
  | same traffic => exact within_of_traffic traffic h
  | reset traffic => exact within_of_traffic traffic ((capacityLaw_iff _).mp reset_capacityLaw).2
  | packets first second traffic =>
    exact within_of_traffic traffic ⟨second.within (first.within h.intake), h.queues⟩
  | frameSetUp _ item traffic | frameEnded _ item traffic =>
    exact within_of_traffic traffic (within_of_eq (h.takeItem item) rfl rfl rfl rfl)
  | lineTaken _ item _ traffic =>
    refine within_of_traffic traffic (.examineLine ?_ ..)
    exact within_of_eq (h.takeItem item) rfl rfl rfl rfl
  | fillPlaced _ _ room traffic => exact within_of_traffic traffic (h.placeRun room)
  | fillWaits _ _ _ traffic | withdrawn traffic | windowStarts _ _ traffic | windowAccepted _ _ traffic
  | rejected _ _ _ _ traffic => exact within_of_traffic traffic (within_of_eq h rfl rfl rfl rfl)
  | waitingPlaced _ room _ traffic =>
    refine within_of_traffic traffic (.placeRun ?_ room)
    exact within_of_eq h rfl rfl rfl rfl
  | lineGoesOn _ room _ _ _ traffic =>
    refine within_of_traffic traffic (.examineLine (.placeRun ?_ ?_) ..)
    · exact within_of_eq h rfl rfl rfl rfl
    · exact room
  | granted _ head traffic =>
    refine within_of_traffic traffic ⟨⟨h.intake.items, h.intake.reservation⟩, ?_⟩
    show QueuesWithin (Engine.grantRun ..).queues
    rw [Engine.grantRun_queues]
    exact h.queues.granted head
  | ended _ traffic =>
    refine within_of_traffic traffic (within_of_eq h ?_ ?_ ?_ rfl) <;>
      rw [State.closeRun_intake, State.releaseRunRefs_intake]

theorem Moves.keepsCapacity {s t : State} (moves : Moves s t) (law : CapacityLaw s) : CapacityLaw t := by
  rw [capacityLaw_iff] at *
  obtain ⟨⟨commands, records⟩, within⟩ := law
  exact ⟨⟨moves.bounded.commands commands, moves.bounded.records records⟩, moves.move.keepsWithin within⟩

/-- Settles O40: idling moves clocks alone, and every move of the traffic keeps both laws. -/
theorem everyStepKeepsQueues : Obligations.EveryStepKeepsQueues := by
  intro s t hstep
  refine ⟨fun law => ?_, fun law => ?_⟩
  · exact step_keeps_of_moves (P := AccountLaw) (fun _ law => law) (fun _ _ law => law)
      (fun _ _ law moves => moves.move.keepsAccount law) law hstep
  · exact step_keeps_of_moves (P := CapacityLaw) (fun _ ⟨commands, items, reservation, runs, records⟩ =>
        ⟨commands, items, reservation, runs, records⟩)
      (fun _ _ ⟨commands, items, reservation, runs, records⟩ => ⟨commands, items, reservation, runs, records⟩)
      (fun _ _ law moves => moves.keepsCapacity law) law hstep

end Sys2Proof.Machine
end

section
/-! Every step keeps the references of line slots and snapshots, and the runs of the engine in their order (R67, R113,
R120 to R128). -/

namespace Sys2Proof.Machine

open Sys2Proof.Safety

/-! ### The runs of the engine (R113, R121 to R128) -/

/-- A run that carries a snapshot is for driver S (R113). -/
def Run.SpineOnly (r : Run) : Prop := r.source.snapshot?.isSome = true → r.driver = .spine

/-- A run that no WINDOW has been started for. -/
structure Run.Fresh (r : Run) : Prop where
  attempts : r.attempts = 0
  spineOnly : r.SpineOnly

/-- The run in transfer by the phase of the bus, with its attempts (R123, R126 to R129). -/
inductive Transferring : Phase → Option Run → Prop where
  | idle : Transferring .idle none
  | turnaround (owed : Nat) {r : Run} : r.Fresh → Transferring (.turnaround owed) (some r)
  | window {r : Run} : 1 ≤ r.attempts → r.attempts ≤ 4 → r.SpineOnly → Transferring .window (some r)
  | data {r : Run} : 1 ≤ r.attempts → r.attempts ≤ 4 → r.SpineOnly → Transferring .data (some r)
  | retry (owed : Nat) {r : Run} : 1 ≤ r.attempts → r.attempts ≤ 3 → r.SpineOnly →
      Transferring (.retry owed) (some r)

/-- The runs of the engine stand in their order: each queue holds fresh runs of its own driver, queue S at most 8, and
the run in transfer is as the phase says. -/
structure RunsInOrder (e : Engine) : Prop where
  queued : ∀ d : Driver, ∀ r ∈ e.queues.get d, r.driver = d ∧ r.Fresh
  room : (e.queues.get .spine).length ≤ 8
  transfer : Transferring e.phase e.inTransfer

theorem mem_heldRuns {e : Engine} {r : Run} :
    r ∈ heldRuns e ↔ (∃ d, r ∈ e.queues.get d) ∨ e.inTransfer = some r := by
  simp only [heldRuns, List.mem_append, Option.mem_toList]
  refine or_congr_left ⟨?_, ?_⟩
  · rintro ((h | h) | h)
    exacts [⟨.front, h⟩, ⟨.spine, h⟩, ⟨.back, h⟩]
  · rintro ⟨d, h⟩
    cases d
    exacts [.inl (.inl h), .inl (.inr h), .inr h]

/-- Held runs are counted queue by queue, and the run in transfer. -/
theorem countP_heldRuns (e : Engine) (p : Run → Bool) :
    (heldRuns e).countP p = (e.queues.get .front).countP p + (e.queues.get .spine).countP p
      + (e.queues.get .back).countP p + e.inTransfer.toList.countP p := by
  simp only [heldRuns, List.countP_append]
  rfl

/-- At most 9 held runs carry a snapshot: 8 on queue S and the one in transfer (R113). -/
theorem RunsInOrder.snapshotRefs_le {e : Engine} (order : RunsInOrder e) (n : Fin 2) : snapshotRefs e n ≤ 9 := by
  have none : ∀ d : Driver, d ≠ .spine →
      (e.queues.get d).countP (fun r => r.source.snapshot? = some n) = 0 := fun d other => by
    refine List.countP_eq_zero.mpr fun r hr carries => ?_
    obtain ⟨own, fresh⟩ := order.queued d r hr
    exact other (own ▸ fresh.spineOnly (by rw [of_decide_eq_true carries]; rfl))
  have spine := (e.queues.get .spine).countP_le_length (p := fun r => r.source.snapshot? = some n)
  have transfer : e.inTransfer.toList.countP (fun r => r.source.snapshot? = some n) ≤ 1 :=
    List.countP_le_length.trans (by cases e.inTransfer <;> simp)
  have room := order.room
  rw [snapshotRefs, countP_heldRuns, none .front (by decide), none .back (by decide)]
  omega

theorem transferLaw_iff_transferring {e : Engine} (spineOnly : ∀ r, e.inTransfer = some r → r.SpineOnly) :
    ((e.inTransfer.isSome = true ↔ e.phase ≠ .idle)
      ∧ ((e.phase = .window ∨ e.phase = .data) → ∀ r, e.inTransfer = some r → 1 ≤ r.attempts ∧ r.attempts ≤ 4)
      ∧ (∀ n, e.phase = .retry n → ∀ r, e.inTransfer = some r → 1 ≤ r.attempts ∧ r.attempts ≤ 3)
      ∧ ∀ n, e.phase = .turnaround n → ∀ r, e.inTransfer = some r → r.attempts = 0)
    ↔ Transferring e.phase e.inTransfer := by
  generalize e.phase = phase, e.inTransfer = inTransfer at *
  constructor
  · rintro ⟨busy, window, retry, turnaround⟩
    cases inTransfer with
    | none =>
      have idle : phase = .idle := by simpa using busy
      rw [idle]
      exact .idle
    | some r =>
      have only := spineOnly r rfl
      cases phase with
      | idle => simp at busy
      | turnaround owed => exact .turnaround _ ⟨turnaround owed rfl r rfl, only⟩
      | window =>
        obtain ⟨least, most⟩ := window (.inl rfl) r rfl
        exact .window least most only
      | data =>
        obtain ⟨least, most⟩ := window (.inr rfl) r rfl
        exact .data least most only
      | retry owed =>
        obtain ⟨least, most⟩ := retry owed rfl r rfl
        exact .retry _ least most only
  · rintro (_ | ⟨_, fresh⟩ | ⟨least, most, -⟩ | ⟨least, most, -⟩ | ⟨_, least, most, -⟩)
    · simp
    · simp [fresh.attempts]
    · simp [least, most]
    · simp [least, most]
    · simp [least, most]

/-! ### What a change of the engine leaves of the held runs -/

/-- The held runs read and carry the same, whatever their attempts. -/
def SameSources (e e' : Engine) : Prop :=
  ∀ p : RunSource → Bool, (heldRuns e').countP (fun r => p r.source) = (heldRuns e).countP (fun r => p r.source)

/-- A change of what is not a run. -/
theorem SameSources.of_eq {e e' : Engine} (queues : e'.queues = e.queues) (inTransfer : e'.inTransfer = e.inTransfer) :
    SameSources e e' := fun p => by rw [heldRuns, heldRuns, queues, inTransfer]

/-- A new attempt of the run in transfer. -/
theorem SameSources.attempt {e e' : Engine} {r r' : Run} (queues : e'.queues = e.queues)
    (was : e.inTransfer = some r) (is : e'.inTransfer = some r') (source : r'.source = r.source) :
    SameSources e e' := fun p => by
  simp [countP_heldRuns, queues, was, is, source]

/-- A run leaves its queue and becomes the run in transfer (R123). -/
theorem SameSources.granted {e e' : Engine} {d : Driver} {r r' : Run} {rest : List Run}
    (head : e.queues.get d = r :: rest) (queues : e'.queues = e.queues.set d rest) (was : e.inTransfer = none)
    (is : e'.inTransfer = some r') (source : r'.source = r.source) : SameSources e e' := fun p => by
  rw [countP_heldRuns, countP_heldRuns, queues, was, is]
  cases d <;> simp only [PerZone.get, PerZone.set] at head ⊢ <;>
    simp only [head, List.countP_cons, List.countP_nil, Option.toList_some, Option.toList_none, source] <;> omega

/-- A placed run is held too (R121). -/
theorem countP_heldRuns_placeRun (s : State) (r : Run) (p : Run → Bool) :
    (heldRuns (s.placeRun r).engine).countP p = (heldRuns s.engine).countP p + if p r = true then 1 else 0 := by
  rw [countP_heldRuns, countP_heldRuns, s.placeRun_queue, s.placeRun_queue, s.placeRun_queue]
  rw [State.placeRun_engine]
  cases r.driver <;> simp [List.countP_append, List.countP_singleton] <;> omega

/-- A run that ends was held (R130). -/
theorem countP_heldRuns_closeRun {s : State} {r : Run} (run : s.engine.inTransfer = some r) (p : Run → Bool) :
    (heldRuns s.engine).countP p = (heldRuns (s.closeRun r).engine).countP p + if p r = true then 1 else 0 := by
  rw [countP_heldRuns, countP_heldRuns, State.closeRun_engine, run]
  simp [List.countP_singleton]

/-! ### The runs stay in their order -/

theorem RunsInOrder.placeRun {s : State} (order : RunsInOrder s.engine) {r : Run} (fresh : r.Fresh)
    (room : s.engine.hasRoom r.driver = true) : RunsInOrder (s.placeRun r).engine := by
  refine ⟨fun d r' h => ?_, ?_, order.transfer⟩
  · rw [s.placeRun_queue] at h
    split at h
    · next own =>
      rcases List.mem_append.mp h with old | new
      · exact order.queued d r' (own ▸ old)
      · obtain rfl := List.mem_singleton.mp new
        exact ⟨own.symm, fresh⟩
    · exact order.queued d r' h
  · rw [s.placeRun_queue]
    split
    · rw [List.length_append, List.length_singleton]
      exact (s.engine.hasRoom_iff _).mp room
    · exact order.room

theorem RunsInOrder.granted {e e' : Engine} (order : RunsInOrder e) {d : Driver} {r : Run} {rest : List Run}
    (head : e.queues.get d = r :: rest) (queues : e'.queues = e.queues.set d rest)
    (transfer : Transferring e'.phase e'.inTransfer) : RunsInOrder e' := by
  refine ⟨fun d' r' h => ?_, ?_, transfer⟩
  · rw [queues] at h
    refine order.queued d' r' ?_
    by_cases same : d' = d
    · subst same
      rw [PerZone.get_set_same] at h
      rw [head]
      exact .tail _ h
    · rwa [PerZone.get_set_other _ _ same] at h
  · rw [queues]
    by_cases same : Zone.spine = d
    · subst same
      rw [PerZone.get_set_same]
      have room := order.room
      rw [head, List.length_cons] at room
      omega
    · rw [PerZone.get_set_other _ _ same]
      exact order.room

theorem RunsInOrder.setTransfer {e e' : Engine} (order : RunsInOrder e) (queues : e'.queues = e.queues)
    (transfer : Transferring e'.phase e'.inTransfer) : RunsInOrder e' :=
  ⟨by rw [queues]; exact order.queued, by rw [queues]; exact order.room, transfer⟩

/-- The grant starts a WINDOW, or leads into TURNAROUND (R123, R126). -/
theorem Engine.grantRun_cases (e : Engine) (d : Driver) (r : Run) (rest : List Run) :
    ((e.grantRun d r rest).phase = .window
        ∧ (e.grantRun d r rest).inTransfer = some { r with attempts := r.attempts + 1 })
      ∨ ∃ owed, (e.grantRun d r rest).phase = .turnaround owed ∧ (e.grantRun d r rest).inTransfer = some r := by
  unfold Engine.grantRun
  dsimp only
  split
  · exact .inl ⟨rfl, rfl⟩
  · exact .inr ⟨_, rfl, rfl⟩

theorem Transferring.none_of_idle {inTransfer : Option Run} (h : Transferring .idle inTransfer) :
    inTransfer = none := by
  cases h
  rfl

theorem Transferring.spineOnly {phase : Phase} {r : Run} (h : Transferring phase (some r)) : r.SpineOnly := by
  cases h with
  | turnaround _ fresh => exact fresh.spineOnly
  | window _ _ only | data _ _ only | retry _ _ _ only => exact only

/-- The WINDOW of a run ends in DATA (R127). -/
theorem Transferring.accepted {r : Run} (h : Transferring .window (some r)) : Transferring .data (some r) := by
  obtain _ | _ | ⟨least, most, only⟩ := h
  exact .data least most only

/-- The WINDOW of a run ends in RETRY after attempts 1 to 3 (R128). -/
theorem Transferring.rejected {r : Run} (h : Transferring .window (some r)) (again : r.attempts < 4) (owed : Nat) :
    Transferring (.retry owed) (some r) := by
  obtain _ | _ | ⟨least, -, only⟩ := h
  exact .retry owed least (Nat.le_of_lt_succ again) only

/-- Beats pass, and the run in transfer stays (R126, R128). -/
theorem Transferring.timePasses {e : Engine} (h : Transferring e.phase e.inTransfer) (index : Nat) :
    Transferring (e.timePasses index).phase (e.timePasses index).inTransfer := by
  unfold Engine.timePasses
  dsimp only
  generalize e.phase = phase, e.inTransfer = inTransfer at h
  cases h with
  | idle => exact .idle
  | turnaround _ fresh => exact .turnaround _ fresh
  | window least most only => exact .window least most only
  | data least most only => exact .data least most only
  | retry _ least most only => exact .retry _ least most only

/-- A WINDOW starts attempt 1 after TURNAROUND, and attempts 2 to 4 after RETRY (R127, R128). -/
theorem Transferring.startsWindow {phase : Phase} {r : Run} {owed : Nat} (h : Transferring phase (some r))
    (waits : phase = .turnaround owed ∨ phase = .retry owed) :
    Transferring .window (some { r with attempts := r.attempts + 1 }) := by
  rcases waits with rfl | rfl
  · obtain _ | ⟨_, fresh⟩ := h
    exact .window (Nat.le_add_left ..) (by simp [fresh.attempts]) fresh.spineOnly
  · obtain _ | _ | _ | _ | ⟨_, least, most, only⟩ := h
    exact .window (Nat.le_add_left ..) (Nat.succ_le_succ most) only

/-! ### Line slots and who uses them (R67) -/

section

variable {slot : Option LineSlot} {refs holds : Nat}

theorem slotAgrees_placed (h : slotAgrees slot refs holds) (occupied : slot ≠ none) :
    slotAgrees (slot.map (·.withRefs 1)) (refs + 1) holds := by
  cases slot with
  | none => exact absurd rfl occupied
  | some l =>
    obtain ⟨count, hold, -⟩ := h
    exact ⟨congrArg (· + 1) count, hold, .inr (Nat.succ_pos _)⟩

theorem slotAgrees_released (h : slotAgrees slot (refs + 1) holds) : slotAgrees (lineReleased slot) refs holds := by
  cases slot with
  | none => exact absurd h.1 (Nat.succ_ne_zero _)
  | some l =>
    obtain ⟨count, hold, -⟩ := h
    simp only [lineReleased]
    split
    · next freed =>
      refine ⟨by omega, ?_⟩
      rw [hold, freed.1]
      rfl
    · next used =>
      refine ⟨by simp [count], hold, ?_⟩
      rw [count] at used
      cases held : l.hold with
      | true => exact .inl rfl
      | false =>
        right
        by_contra none
        exact used ⟨held, by omega⟩

theorem slotAgrees_holdReleased (h : slotAgrees slot refs (holds + 1)) :
    slotAgrees (slot.bind fun x => if x.refs = 0 then none else some { x with hold := false }) refs holds := by
  cases slot with
  | none => exact absurd h.2 (Nat.succ_ne_zero _)
  | some l =>
    obtain ⟨count, hold, -⟩ := h
    have once : holds = 0 := by
      split at hold <;> omega
    rw [Option.bind_some]
    split
    · next free => exact ⟨count ▸ free, once⟩
    · next used => exact ⟨count, once, .inr (Nat.pos_of_ne_zero (count ▸ used))⟩

theorem occupied_of_hold (h : slotAgrees slot refs (holds + 1)) : slot ≠ none := by
  rintro rfl
  exact absurd h.2 (Nat.succ_ne_zero _)

end

/-- An item holds a line slot when it is a LINE of that slot (R66). -/
def IntakeItem.holds (item : IntakeItem) (n : Fin 32) : Bool :=
  match item with
  | .line m _ => decide (m = n)
  | _ => false

/-- The hold of a line in hand. -/
def handHolds (line : Option LineInHand) (n : Fin 32) : Nat := if line.any (·.slot = n) then 1 else 0

theorem handHolds_some (l : LineInHand) (n : Fin 32) : handHolds (some l) n = if l.slot = n then 1 else 0 := by
  simp [handHolds]

/-- The line slots of the intake agree with the references and with the holds of the items and of the mapper. -/
def Intake.SlotsAgree (i : Intake) (refs holds : Fin 32 → Nat) : Prop :=
  ∀ n : Fin 32, slotAgrees i.lines[n] (refs n) (i.queue.countP (·.holds n) + holds n)

theorem lineStoreLaw_iff (s : State) :
    LineStoreLaw s ↔ s.intake.SlotsAgree (lineRefs s.engine) (handHolds s.mapper.lineInHand) := by
  have holds : ∀ n, mapperHolds s n
      = s.intake.queue.countP (·.holds n) + handHolds s.mapper.lineInHand n := fun n => by
    unfold mapperHolds
    congr 1
  simp only [LineStoreLaw, Intake.SlotsAgree, holds]

/-- A packet of a frame holds the slot that its line takes, and no other (R67, R75). -/
theorem PacketMove.slotsAgree {i i' : Intake} (move : PacketMove i i') {refs holds : Fin 32 → Nat}
    (h : i.SlotsAgree refs holds) : i'.SlotsAgree refs holds := by
  intro n
  have agrees := h n
  cases move with
  | counted _ queue _ lines => rwa [queue, lines]
  | @accepted m _ _ _ _ free _ queue _ lines =>
    rw [queue, lines, getElem_set_fin, List.countP_append]
    by_cases same : n = m
    · subst same
      rw [free] at agrees
      obtain ⟨noRefs, noHolds⟩ := agrees
      obtain ⟨noItem, noHand⟩ := Nat.add_eq_zero_iff.mp noHolds
      rw [if_pos rfl, noItem, noHand]
      exact ⟨noRefs.symm, by simp [IntakeItem.holds], .inl rfl⟩
    · simpa [IntakeItem.holds, same, Ne.symm same] using agrees
  | closed _ _ queue _ lines | opened _ _ _ queue _ lines =>
    rw [queue, lines, List.countP_append]
    exact agrees

/-- What the end of a run leaves in each line slot (R67, R130). -/
theorem State.closeRun_lines (s : State) (r : Run) (n : Fin 32) :
    (s.closeRun r).intake.lines[n] =
      if r.source.lineSlot? = some n then lineReleased s.intake.lines[n] else s.intake.lines[n] := by
  have released : (s.closeRun r).intake = match r.source.lineSlot? with
    | some m => s.intake.releaseLineRef m
    | none => s.intake := rfl
  rw [released]
  cases r.source.lineSlot? with
  | none => rfl
  | some m =>
    refine (s.intake.changeLine_lines m n _).trans ?_
    by_cases h : n = m
    · subst h
      rw [if_pos rfl, if_pos rfl]
      cases s.intake.lines[n] with
      | none => rfl
      | some l => simp [LineSlot.settle, lineReleased, Nat.sub_eq_zero_iff_le]
    · rw [if_neg h, if_neg fun e => h (Option.some.inj e).symm]

/-- What the end of a run leaves in each snapshot (R114, R130). -/
theorem State.closeRun_refs (s : State) (r : Run) (n : Fin 2) :
    (s.closeRun r).gain.buffers[n].refs =
      s.gain.buffers[n].refs - if r.source.snapshot? = some n then 1 else 0 := by
  have released : (s.closeRun r).gain = match r.source.snapshot? with
    | some m => s.gain.changeRefs m (· - 1)
    | none => s.gain := rfl
  rw [released]
  cases r.source.snapshot? with
  | none => rfl
  | some m =>
    refine (congrArg Snapshot.refs (s.gain.changeRefs_buffers m n _)).trans ?_
    by_cases h : n = m
    · subst h
      simp
    · rw [if_neg h, if_neg fun e => h (Option.some.inj e).symm]
      rfl

/-- A new snapshot is taken only into a buffer without references (R112). -/
theorem GainUnit.takeSnapshot_refs (g : GainUnit) (w : Nat) (n : Fin 2) :
    (g.takeSnapshot w).buffers[n].refs = g.buffers[n].refs := by
  unfold GainUnit.takeSnapshot
  dsimp only
  split
  · next unused =>
    rw [getElem_set_fin]
    split
    · next same =>
      rw [same]
      exact unused.symm
    · rfl
  · rfl

/-! ### The references law in parts -/

/-- The references are true of the engine's runs. -/
structure RefsTrue (s : State) : Prop where
  order : RunsInOrder s.engine
  lines : s.intake.SlotsAgree (lineRefs s.engine) (handHolds s.mapper.lineInHand)
  snapshots : ∀ n : Fin 2, s.gain.buffers[n].refs = snapshotRefs s.engine n

/-- A waiting run is fresh, and a waiting copy run is of the line in hand. -/
def WaitsTrue (s : State) : Prop :=
  ∀ r, s.mapper.waitingRun = some r →
    r.Fresh ∧ ∀ n, r.source.lineSlot? = some n → ∃ l, s.mapper.lineInHand = some l ∧ l.slot = n

theorem referencesLaw_iff (s : State) : ReferencesLaw s ↔ RefsTrue s ∧ WaitsTrue s := by
  constructor
  · rintro ⟨lines, snapshots, waitingLine, spineOnly, room, ⟨own, waits, busy, window, retry, turnaround⟩⟩
    have only : ∀ r, s.engine.inTransfer = some r → r.SpineOnly := fun r h =>
      spineOnly r (.inl (mem_heldRuns.mpr (.inr h)))
    refine ⟨⟨⟨fun d r h => ?_, room, ?_⟩, (lineStoreLaw_iff s).mp lines, fun n => (snapshots n).1⟩, fun r h => ?_⟩
    · obtain ⟨driver, attempts⟩ := own d r h
      exact ⟨driver, attempts, spineOnly r (.inl (mem_heldRuns.mpr (.inl ⟨d, h⟩)))⟩
    · exact (transferLaw_iff_transferring only).mp ⟨busy, window, retry, turnaround⟩
    · exact ⟨⟨waits r h, spineOnly r (.inr h)⟩, waitingLine r h⟩
  · rintro ⟨⟨order, lines, snapshots⟩, waits⟩
    have only : ∀ r, s.engine.inTransfer = some r → r.SpineOnly := fun r h => by
      have transfer := order.transfer
      rw [h] at transfer
      exact transfer.spineOnly
    obtain ⟨busy, window, retry, turnaround⟩ := (transferLaw_iff_transferring only).mpr order.transfer
    refine ⟨(lineStoreLaw_iff s).mpr lines, fun n => ⟨snapshots n, snapshots n ▸ order.snapshotRefs_le n⟩,
      fun r h => (waits r h).2, fun r h => ?_, order.room, ⟨fun d r h => ?_, fun r h => (waits r h).1.attempts, busy,
        window, retry, turnaround⟩⟩
    · rcases h with held | waiting
      · rcases mem_heldRuns.mp held with ⟨d, queued⟩ | run
        · exact (order.queued d r queued).2.spineOnly
        · exact only r run
      · exact (waits r waiting).1.spineOnly
    · obtain ⟨driver, fresh⟩ := order.queued d r h
      exact ⟨driver, fresh.attempts⟩

/-- Both parts of the law. -/
def RefsLaw (s : State) : Prop := RefsTrue s ∧ WaitsTrue s

theorem refsTrue_of_eq {s t : State} (h : RefsTrue s) (queue : t.intake.queue = s.intake.queue)
    (lines : t.intake.lines = s.intake.lines) (lineInHand : t.mapper.lineInHand = s.mapper.lineInHand)
    (buffers : t.gain.buffers = s.gain.buffers) (queues : t.engine.queues = s.engine.queues)
    (phase : t.engine.phase = s.engine.phase) (inTransfer : t.engine.inTransfer = s.engine.inTransfer) :
    RefsTrue t := by
  have held : heldRuns t.engine = heldRuns s.engine := by rw [heldRuns, heldRuns, queues, inTransfer]
  refine ⟨h.order.setTransfer queues (by rw [phase, inTransfer]; exact h.order.transfer), fun n => ?_, fun n => ?_⟩
  · rw [queue, lines, lineInHand, lineRefs, held]
    exact h.lines n
  · rw [buffers, snapshotRefs, held]
    exact h.snapshots n

theorem refsLaw_of_traffic {s t : State} (traffic : t.traffic = s.traffic) (h : RefsLaw s) : RefsLaw t := by
  refine ⟨refsTrue_of_eq h.1 (congrArg (·.intake.queue) traffic) (congrArg (·.intake.lines) traffic)
    (congrArg Traffic.lineInHand traffic) (congrArg Traffic.buffers traffic) (congrArg Traffic.queues traffic)
    (congrArg Traffic.phase traffic) (congrArg Traffic.inTransfer traffic), ?_⟩
  rw [WaitsTrue, show t.mapper.waitingRun = s.mapper.waitingRun from congrArg Traffic.waitingRun traffic,
    show t.mapper.lineInHand = s.mapper.lineInHand from congrArg Traffic.lineInHand traffic]
  exact h.2

/-! ### What keeps the references true -/

/-- A change of the engine that leaves what its runs read and carry. -/
theorem RefsTrue.setEngine {s : State} (h : RefsTrue s) {e : Engine} (order : RunsInOrder e)
    (same : SameSources s.engine e) : RefsTrue { s with engine := e } := by
  refine ⟨order, fun n => ?_, fun n => ?_⟩
  · show slotAgrees _ (lineRefs e n) _
    rw [show lineRefs e n = lineRefs s.engine n from same fun source => source.lineSlot? = some n]
    exact h.lines n
  · exact (h.snapshots n).trans (same fun source => source.snapshot? = some n).symm

/-- GRANT moves the head of a queue into transfer (R123, R126). -/
theorem RefsTrue.granted {s : State} (h : RefsTrue s) {d : Driver} {r : Run} {rest : List Run}
    (idle : s.engine.phase = .idle) (head : s.engine.queues.get d = r :: rest) :
    RefsTrue { s with engine := s.engine.grantRun d r rest } := by
  have transfer := h.order.transfer
  rw [idle] at transfer
  have was := transfer.none_of_idle
  have fresh : r.Fresh := (h.order.queued d r (by rw [head]; exact .head _)).2
  have queues := s.engine.grantRun_queues d r rest
  rcases s.engine.grantRun_cases d r rest with ⟨phase, run⟩ | ⟨owed, phase, run⟩
  · refine h.setEngine (h.order.granted head queues ?_) (.granted head queues was run rfl)
    rw [phase, run]
    exact .window (Nat.le_add_left ..) (by simp [fresh.attempts]) fresh.spineOnly
  · refine h.setEngine (h.order.granted head queues ?_) (.granted head queues was run rfl)
    rw [phase, run]
    exact .turnaround owed fresh

/-- A placed run takes its references; the slot that it reads must be occupied (R67, R113). -/
theorem RefsTrue.placeRun {s : State} (h : RefsTrue s) {r : Run} (fresh : r.Fresh)
    (room : s.engine.hasRoom r.driver = true)
    (occupied : ∀ n, r.source.lineSlot? = some n → s.intake.lines[n] ≠ none) : RefsTrue (s.placeRun r) := by
  refine ⟨h.order.placeRun fresh room, fun n => ?_, fun n => ?_⟩
  · have queue : (s.placeRun r).intake.queue = s.intake.queue := by rw [s.placeRun_intake r]
    rw [s.placeRun_lines, lineRefs, countP_heldRuns_placeRun, queue]
    by_cases reads : r.source.lineSlot? = some n
    · rw [if_pos (decide_eq_true reads), if_pos reads]
      exact slotAgrees_placed (h.lines n) (occupied n reads)
    · rw [if_neg reads, if_neg (by simpa using reads)]
      exact h.lines n
  · have counts := h.snapshots n
    rw [snapshotRefs] at counts
    rw [s.placeRun_buffers, snapshotRefs, countP_heldRuns_placeRun]
    rw [counts]
    simp

/-- The slot that a waiting run reads is the line's in hand, so it is occupied. -/
theorem RefsLaw.occupied {s : State} (h : RefsLaw s) {r : Run} (waiting : s.mapper.waitingRun = some r) (n : Fin 32)
    (reads : r.source.lineSlot? = some n) : s.intake.lines[n] ≠ none := by
  obtain ⟨l, inHand, rfl⟩ := (h.2 r waiting).2 n reads
  have agrees := h.1.lines l.slot
  rw [inHand, handHolds_some, if_pos rfl] at agrees
  exact occupied_of_hold agrees

/-- The waiting run is placed (R91). -/
theorem RefsLaw.waitingPlaced {s : State} (h : RefsLaw s) {r : Run} (waiting : s.mapper.waitingRun = some r)
    (room : s.engine.hasRoom r.driver = true) :
    RefsTrue (State.placeRun { s with mapper := { s.mapper with waitingRun := none } } r) := by
  have lifted : RefsTrue { s with mapper := { s.mapper with waitingRun := none } } :=
    ⟨h.1.order, h.1.lines, h.1.snapshots⟩
  exact lifted.placeRun (h.2 r waiting).1 room (h.occupied waiting)

/-- A run that ends releases its references (R130, R132). -/
theorem RefsTrue.closeRun {s : State} (h : RefsTrue s) {r : Run} (run : s.engine.inTransfer = some r) :
    RefsTrue (s.closeRun r) := by
  refine ⟨h.order.setTransfer rfl .idle, fun n => ?_, fun n => ?_⟩
  · have agrees := h.lines n
    rw [lineRefs, countP_heldRuns_closeRun run] at agrees
    have queue : (s.closeRun r).intake.queue = s.intake.queue := by
      rw [State.closeRun_intake, State.releaseRunRefs_intake]
    rw [s.closeRun_lines, queue]
    by_cases reads : r.source.lineSlot? = some n
    · rw [if_pos (decide_eq_true reads)] at agrees
      rw [if_pos reads]
      exact slotAgrees_released agrees
    · rw [if_neg (by simpa using reads)] at agrees
      rw [if_neg reads]
      exact agrees
  · have counts := h.snapshots n
    rw [snapshotRefs, countP_heldRuns_closeRun run] at counts
    rw [s.closeRun_refs, counts]
    simp [snapshotRefs]

/-- The references are true, the line of a slot is in hand, and no copy run waits. -/
structure LineHeld (slot : Fin 32) (s : State) : Prop where
  refs : RefsTrue s
  hand : ∃ l, s.mapper.lineInHand = some l ∧ l.slot = slot
  waits : ∀ r, s.mapper.waitingRun = some r → r.Fresh ∧ r.source.lineSlot? = none

/-- What the mapper holds of its line's slot. -/
theorem LineHeld.slotAgrees {slot : Fin 32} {s : State} (h : LineHeld slot s) (n : Fin 32) :
    slotAgrees s.intake.lines[n] (lineRefs s.engine n)
      (s.intake.queue.countP (·.holds n) + if slot = n then 1 else 0) := by
  obtain ⟨l, inHand, rfl⟩ := h.hand
  have agrees := h.refs.lines n
  rwa [inHand, handHolds_some] at agrees

/-- The slot of a line in hand is occupied. -/
theorem LineHeld.occupied {slot : Fin 32} {s : State} (h : LineHeld slot s) : s.intake.lines[slot] ≠ none := by
  have agrees := h.slotAgrees slot
  rw [if_pos rfl] at agrees
  exact occupied_of_hold agrees

/-- Once its runs are placed, the line in hand gives up its hold (R92). -/
theorem LineHeld.finishLine {slot : Fin 32} {s : State} (h : LineHeld slot s) : RefsLaw (s.finishLine slot) := by
  refine ⟨⟨h.refs.order, fun n => ?_, h.refs.snapshots⟩, fun r waits => ?_⟩
  · have agrees := h.slotAgrees n
    rw [State.finishLine_intake, Intake.releaseHold_lines]
    show Safety.slotAgrees _ _ (s.intake.queue.countP (·.holds n) + 0)
    by_cases same : n = slot
    · subst same
      rw [if_pos rfl] at agrees ⊢
      exact slotAgrees_holdReleased agrees
    · rw [if_neg (Ne.symm same)] at agrees
      rw [if_neg same]
      exact agrees
  · obtain ⟨fresh, none⟩ := h.waits r waits
    exact ⟨fresh, fun n reads => by rw [none] at reads; cases reads⟩

/-- A copy run of the line in hand waits (R91). -/
theorem LineHeld.stops {slot : Fin 32} {s : State} (h : LineHeld slot s) {r : Run} (copy : CopyRunOf slot r)
    (row next : Nat) :
    RefsLaw { s with mapper := { s.mapper with waitingRun := some r, lineInHand := some ⟨slot, row, next⟩ } } := by
  refine ⟨⟨h.refs.order, fun n => ?_, h.refs.snapshots⟩, fun r' waits => ?_⟩
  · show Safety.slotAgrees _ _ (_ + handHolds (some ⟨slot, row, next⟩) n)
    rw [handHolds_some]
    exact h.slotAgrees n
  · obtain rfl : r = r' := Option.some.inj waits
    refine ⟨⟨copy.fresh, copy.spineOnly⟩, fun n reads => ⟨_, rfl, ?_⟩⟩
    exact Option.some.inj (copy.ofSlot.symm.trans reads)

/-- The examination of a line keeps the references true (R88 to R92). -/
theorem LineHeld.examineLine {s : State} {l : LineInHand} (h : LineHeld l.slot s) (f : FrameInHand) :
    RefsLaw (s.examineLine f l) := by
  refine examineEntries_induction (P := LineHeld l.slot) (Q := RefsLaw) s.mapper.copy.modes f l.slot l.row
    (fun t r e ht gives room => ?_) (fun t ht => ht.finishLine)
    (fun t r e i ht gives _ => ht.stops (copyRun_of_some gives) ..) _ _ _ h
  have copy := copyRun_of_some gives
  refine ⟨ht.refs.placeRun ⟨copy.fresh, copy.spineOnly⟩ room fun n reads => ?_, ht.hand, ht.waits⟩
  obtain rfl : l.slot = n := Option.some.inj (copy.ofSlot.symm.trans reads)
  exact ht.occupied

/-- A fill run of the sweep references nothing (R95). -/
theorem FillItem.run_fresh (item : FillItem) (row : Nat) : (item.run row).Fresh := ⟨rfl, nofun⟩

/-- A fill run reads no line slot. -/
theorem lineSlot?_of_isFill {r : Run} (isFill : r.isFill = true) : r.source.lineSlot? = none := by
  unfold Run.isFill at isFill
  split at isFill
  · next source =>
    rw [source]
    rfl
  · cases isFill

/-- Every move keeps the references true. -/
theorem Move.keepsRefs {s t : State} (move : Move s t) (law : RefsLaw s) : RefsLaw t := by
  have ⟨refs, waits⟩ := law
  have transfer := refs.order.transfer
  cases move with
  | same traffic => exact refsLaw_of_traffic traffic law
  | reset traffic => exact refsLaw_of_traffic traffic ((referencesLaw_iff _).mp reset_referencesLaw)
  | packets first second traffic =>
    exact refsLaw_of_traffic traffic
      ⟨⟨refs.order, second.slotsAgree (first.slotsAgree refs.lines), refs.snapshots⟩, waits⟩
  | frameSetUp takes item traffic =>
    refine refsLaw_of_traffic traffic ⟨⟨refs.order, fun n => ?_, fun n => ?_⟩, fun r waiting => ?_⟩
    · have agrees := refs.lines n
      rw [item] at agrees
      exact agrees
    · exact (GainUnit.takeSnapshot_refs ..).trans (refs.snapshots n)
    · exact waits r (Mapper.withdrawFill_waits.mp waiting).1
  | lineTaken takes item hand traffic =>
    next slot row rest f =>
    obtain ⟨noLine, noCopy, -⟩ := s.mapper.takesItems_iff.mp takes
    refine refsLaw_of_traffic traffic (LineHeld.examineLine ?_ f)
    refine ⟨⟨refs.order, fun n => ?_, refs.snapshots⟩, ⟨_, rfl, rfl⟩,
      fun r waiting => ⟨(waits r waiting).1, lineSlot?_of_isFill (noCopy r waiting)⟩⟩
    have agrees := refs.lines n
    rw [item, noLine, List.countP_cons] at agrees
    show slotAgrees _ _ (rest.countP (·.holds n) + handHolds (some ⟨slot, row, 0⟩) n)
    rw [handHolds_some]
    simpa [IntakeItem.holds, handHolds] using agrees
  | frameEnded takes item traffic =>
    refine refsLaw_of_traffic traffic ⟨⟨refs.order, fun n => ?_, refs.snapshots⟩, waits⟩
    have agrees := refs.lines n
    rw [item] at agrees
    exact agrees
  | fillPlaced item row room traffic =>
    exact refsLaw_of_traffic traffic ⟨refs.placeRun (item.run_fresh row) room nofun, waits⟩
  | fillWaits item row runs traffic =>
    refine refsLaw_of_traffic traffic ⟨⟨refs.order, refs.lines, refs.snapshots⟩, fun r waiting => ?_⟩
    obtain rfl : item.run row = r := Option.some.inj waiting
    exact ⟨item.run_fresh row, nofun⟩
  | waitingPlaced waiting room _ traffic =>
    exact refsLaw_of_traffic traffic ⟨law.waitingPlaced waiting room, fun _ waiting => by cases waiting⟩
  | lineGoesOn waiting room _ line _ traffic =>
    refine refsLaw_of_traffic traffic (LineHeld.examineLine ?_ _)
    exact ⟨law.waitingPlaced waiting room, ⟨_, line, rfl⟩, fun _ waiting => by cases waiting⟩
  | withdrawn traffic =>
    exact refsLaw_of_traffic traffic ⟨⟨refs.order, refs.lines, refs.snapshots⟩,
      fun r waiting => waits r (Mapper.withdrawFill_waits.mp waiting).1⟩
  | granted idle head traffic =>
    exact refsLaw_of_traffic traffic ⟨refs.granted idle head, waits⟩
  | windowStarts waiting run traffic =>
    rw [run] at transfer
    exact refsLaw_of_traffic traffic ⟨refs.setEngine (refs.order.setTransfer rfl (transfer.startsWindow waiting))
      (.attempt rfl run rfl rfl), waits⟩
  | windowAccepted window run traffic =>
    rw [window] at transfer
    rw [run] at transfer
    exact refsLaw_of_traffic traffic ⟨refs.setEngine (refs.order.setTransfer rfl (run ▸ transfer.accepted))
      (.of_eq rfl rfl), waits⟩
  | rejected owed window run again traffic =>
    rw [window] at transfer
    rw [run] at transfer
    exact refsLaw_of_traffic traffic ⟨refs.setEngine (refs.order.setTransfer rfl (run ▸ transfer.rejected again owed))
      (.of_eq rfl rfl), waits⟩
  | ended run traffic => exact refsLaw_of_traffic traffic ⟨refs.closeRun run, waits⟩

/-- Settles O52: idling moves owed beats alone, and every move of the traffic keeps the references true. -/
theorem everyStepKeepsReferences : Obligations.EveryStepKeepsReferences := by
  intro s t law hstep
  rw [referencesLaw_iff] at *
  refine step_keeps_of_moves (P := RefsLaw) (fun s ⟨refs, waits⟩ => ?_)
    (fun _ _ ⟨⟨order, lines, snapshots⟩, waits⟩ => ⟨⟨order, lines, snapshots⟩, waits⟩)
    (fun _ _ law moves => moves.move.keepsRefs law) law hstep
  exact ⟨⟨refs.order.setTransfer rfl (refs.order.transfer.timePasses s.freeIndex), refs.lines, refs.snapshots⟩, waits⟩

end Sys2Proof.Machine
end

section
/-! The fill sweep's list and cursor, and the commands that have no part in them (R94 to R98). -/

namespace Sys2Proof.Machine

open Sys2Proof.Safety

/-- The fill list and the cursor of the sweep. -/
def State.sweep (s : State) : List FillItem × Option Cursor := (s.mapper.fillList, s.mapper.cursor)

/-- The command answers a next state with the same fill list and cursor. -/
abbrev LeavesSweep (s : State) (r : Result) : Prop := Answers (fun t => t.sweep = s.sweep) r

theorem LeavesSweep.of_eq {s t : State} (h : t.sweep = s.sweep) : LeavesSweep s (.next t) := ⟨t, rfl, h⟩

/-! ### The shared operations -/

@[simp] theorem State.respond_sweep (s : State) (status : Status) (data : List Byte) :
    (s.respond status data).sweep = s.sweep := by
  rw [State.sweep, State.respond_mapper]
  rfl

/-- A command leaves the sweep as it is when its action does (R165). -/
theorem State.carryOut_leavesSweep (s : State) (code : Byte) (fits : List Byte → Bool) (exempt : Bool)
    (act : List Byte → State → Reply) (acted : ∀ operands, (act operands s).after.sweep = s.sweep) :
    LeavesSweep s (.next (s.carryOut code fits exempt act)) :=
  State.carryOut_keepsProp (P := fun t => t.sweep = s.sweep) rfl
    (fun t status data h => (t.respond_sweep status data).trans h) fun operands _ => acted operands

@[simp] theorem State.estopActs_sweep (s : State) : s.estopActs.sweep = s.sweep := by
  rw [s.estopActs_eq]
  rfl

@[simp] theorem State.fopenArrival_sweep (s : State) : s.fopenArrival.sweep = s.sweep := by
  unfold State.fopenArrival
  split <;> rfl

@[simp] theorem State.offerIntake_sweep (s : State) : s.offerIntake.sweep = s.sweep := by
  unfold State.offerIntake
  dsimp only
  split <;> rfl

@[simp] theorem State.truncateFrame_sweep (s : State) : s.truncateFrame.sweep = s.sweep := by
  unfold State.truncateFrame
  split
  · rfl
  · exact State.offerIntake_sweep _
  · exact State.offerIntake_sweep _

/-- A sample has no part in the sweep (R28 to R43). -/
theorem SampleFrame.sweep {s t : State} (h : SampleFrame s t) : t.sweep = s.sweep := by
  rw [State.sweep, h.mapper]
  rfl

/-! ### The actions of the command summary (10.4) -/

theorem State.editReply_sweep (s : State) (n : Byte) (needs : Bool) (change : Layout → Option Layout) :
    (s.editReply n needs change).after.sweep = s.sweep := by
  unfold State.editReply
  split <;> rfl

theorem editActions_sweep {act : List Byte → State → Reply}
    (edit : act ∈ [slotClearAction, slotZonesAction, entryPutAction, entryDropAction]) (operands : List Byte)
    (s : State) : (act operands s).after.sweep = s.sweep := by
  simp only [List.mem_cons, List.not_mem_nil, or_false] at edit
  obtain rfl | rfl | rfl | rfl := edit
  · unfold slotClearAction
    split
    · exact s.editReply_sweep ..
    · rfl
  · unfold slotZonesAction
    split
    · exact s.editReply_sweep ..
    · rfl
  · unfold entryPutAction
    split
    · exact s.editReply_sweep ..
    · rfl
  · unfold entryDropAction
    split
    · exact s.editReply_sweep ..
    · rfl

theorem slotCheckAction_sweep (operands : List Byte) (s : State) :
    (slotCheckAction operands s).after.sweep = s.sweep := by
  unfold slotCheckAction
  split
  · split
    · dsimp only
      split
      · rfl
      · rfl
      · split <;> rfl
    · rfl
  · rfl

theorem slotReadAction_sweep (operands : List Byte) (s : State) :
    (slotReadAction operands s).after.sweep = s.sweep := by
  unfold slotReadAction
  split
  · split
    · dsimp only
      split
      · rfl
      · split <;> rfl
    · rfl
  · rfl

theorem State.offerToMap_sweep {s t : State} {p : Posture} {n : Nat} (ok : s.offerToMap p n = .ok t) :
    t.sweep = s.sweep := by
  unfold State.offerToMap at ok
  split at ok
  · split at ok <;> cases ok
    rfl
  · cases ok

theorem mapSetAction_sweep (operands : List Byte) (s : State) : (mapSetAction operands s).after.sweep = s.sweep := by
  unfold mapSetAction
  split
  · split
    · rfl
    · split
      · rfl
      · next ok => exact State.offerToMap_sweep ok
  · rfl

theorem faceSetAction_sweep (operands : List Byte) (s : State) : (faceSetAction operands s).after.sweep = s.sweep := by
  unfold faceSetAction
  split
  · split
    · rfl
    · dsimp only
      split <;> rfl
  · rfl

theorem gainLoadAction_sweep (operands : List Byte) (s : State) :
    (gainLoadAction operands s).after.sweep = s.sweep := by
  unfold gainLoadAction
  split
  · split
    · rfl
    · dsimp only
      split <;> rfl
  · rfl

/-- The actions that store values of another block, after one test of their operands. -/
theorem storeActions_sweep {act : List Byte → State → Reply}
    (store : act ∈ [angleSetAction, angleCalAction, gainPointsAction, profileSetAction, emitSetAction,
      emitPeriodAction, emitFadeAction, guardSetAction, reportReadAction, attnSetAction]) (operands : List Byte)
    (s : State) : (act operands s).after.sweep = s.sweep := by
  simp only [List.mem_cons, List.not_mem_nil, or_false] at store
  obtain rfl | rfl | rfl | rfl | rfl | rfl | rfl | rfl | rfl | rfl := store
  · unfold angleSetAction
    split <;> rfl
  · unfold angleCalAction
    split
    · split <;> rfl
    · rfl
  · unfold gainPointsAction
    split
    · split <;> rfl
    · rfl
  · unfold profileSetAction
    split
    · split <;> rfl
    · rfl
  · unfold emitSetAction
    split
    · split <;> rfl
    · rfl
  · unfold emitPeriodAction
    split <;> rfl
  · unfold emitFadeAction
    split <;> rfl
  · unfold guardSetAction
    split <;> rfl
  · unfold reportReadAction
    split
    · split <;> rfl
    · rfl
  · unfold attnSetAction
    split
    · split <;> rfl
    · rfl

/-! ### The image (R180 to R185) -/

theorem State.orKeep_sweep (s : State) (o : Option State) (h : ∀ t, o = some t → t.sweep = s.sweep) :
    (s.orKeep o).2.sweep = s.sweep := by
  cases o with
  | none => rfl
  | some t => exact h t rfl

theorem State.applyAngle_sweep {s t : State} {body : List Byte} (h : s.applyAngle body = some t) :
    t.sweep = s.sweep := by
  unfold State.applyAngle at h
  split at h
  · obtain ⟨_, -, rfl⟩ := Option.map_eq_some_iff.mp h
    rfl
  · cases h

/-- New gains have no part in the sweep. -/
theorem State.setGain_sweep (s : State) (g : GainUnit) : State.sweep { s with gain := g } = s.sweep := rfl

theorem State.applyGain_sweep {s t : State} {body : List Byte} (h : s.applyGain body = some t) :
    t.sweep = s.sweep := by
  unfold State.applyGain at h
  dsimp only at h
  split at h <;> cases h
  exact s.setGain_sweep _

theorem State.applyEmit_sweep {s t : State} {body : List Byte} (h : s.applyEmit body = some t) :
    t.sweep = s.sweep := by
  unfold State.applyEmit at h
  split at h <;> cases h
  rfl

theorem State.applyGuard_sweep {s t : State} {body : List Byte} (h : s.applyGuard body = some t) :
    t.sweep = s.sweep := by
  unfold State.applyGuard at h
  split at h <;> cases h
  rfl

theorem State.applyProfile_sweep (s : State) (d : Driver) (c w t : Byte) :
    (s.applyProfile d c w t).2.sweep = s.sweep := by
  unfold State.applyProfile
  split <;> rfl

theorem State.applyProfiles_sweep (s : State) (body : List Byte) : (s.applyProfiles body).2.sweep = s.sweep := by
  unfold State.applyProfiles
  split
  · exact ((State.applyProfile_sweep ..).trans (State.applyProfile_sweep ..)).trans (State.applyProfile_sweep ..)
  · rfl

theorem State.applyLayout_sweep (s : State) (body : List Byte) : (s.applyLayout body).2.sweep = s.sweep := by
  unfold State.applyLayout
  split
  · split
    · rfl
    · split
      · rfl
      · split <;> rfl
  · rfl

theorem State.applyMapEntry_sweep (s : State) (p : Posture) (n : Byte) :
    (s.applyMapEntry p n).2.sweep = s.sweep := by
  unfold State.applyMapEntry
  split
  · next ok => exact State.offerToMap_sweep ok
  · rfl

theorem State.applyMap_sweep (s : State) (body : List Byte) : (s.applyMap body).2.sweep = s.sweep := by
  unfold State.applyMap
  split
  · simp only [State.applyMapEntry_sweep]
  · rfl

/-- No section has a part in the sweep (R182). -/
theorem State.applySection_sweep (s : State) (kind : Byte) (body : List Byte) :
    (s.applySection kind body).2.sweep = s.sweep := by
  unfold State.applySection
  split
  · split
    · exact s.orKeep_sweep _ fun _ => State.applyAngle_sweep
    · exact s.orKeep_sweep _ fun _ => State.applyGain_sweep
    · exact s.orKeep_sweep _ fun _ => State.applyEmit_sweep
    · exact s.orKeep_sweep _ fun _ => State.applyGuard_sweep
    · exact s.applyProfiles_sweep body
    · exact s.applyLayout_sweep body
    · exact s.applyMap_sweep body
  · rfl

theorem State.loaderTakes_sweep (s : State) (bytes : List Byte) : (s.loaderTakes bytes).sweep = s.sweep :=
  State.loaderTakes_induction (P := fun t => t.sweep = s.sweep) (Q := fun t => t.sweep = s.sweep)
    (registers := fun _ _ _ h _ => h)
    (applied := fun t kind body h => (t.applySection_sweep kind body).trans h)
    (ended := fun _ _ _ h => h)
    (header := fun _ _ h _ => h)
    (body := fun _ _ _ _ _ _ h _ => h)
    rfl fun _ => rfl

/-! ### The side bus (R27, R50 to R62) -/

theorem State.completeRead_sweep (s : State) (r : Request) (received : List Byte) (lateLoss : Bool) :
    (s.completeRead r received lateLoss).sweep = s.sweep := by
  rw [s.completeRead_eq]
  cases lateLoss <;> rfl

theorem State.abort_sweep (s : State) (r : Request) (after : BusAfter) : (s.abort r after).sweep = s.sweep := by
  cases r with
  | sensor device register => exact (State.failedSample_frame (s.endTransaction [] after)).sweep
  | nvm address count =>
    show (State.loaderFails _).sweep = _
    unfold State.loaderFails
    split <;> rfl

theorem execSampleTimerExpiry_leavesSweep (s : State) : LeavesSweep s (execSampleTimerExpiry s) := by
  unfold execSampleTimerExpiry
  dsimp only
  split <;> exact .of_eq rfl

theorem execTransactionStart_leavesSweep (s : State) : LeavesSweep s (execTransactionStart s) := by
  unfold execTransactionStart
  split <;> exact .of_eq rfl

theorem execArbitrationLost_leavesSweep (s : State) : LeavesSweep s (execArbitrationLost s) := by
  unfold execArbitrationLost
  split <;> exact .of_eq rfl

theorem execSensorReadComplete_leavesSweep (first second : Byte) (lateLoss : Bool) (s : State) :
    LeavesSweep s (execSensorReadComplete first second lateLoss s) := by
  unfold execSensorReadComplete
  split
  · exact .of_eq ((State.goodSample_frame ..).sweep.trans (s.completeRead_sweep ..))
  · exact .of_eq rfl

theorem execNvmReadComplete_leavesSweep (bytes : List Byte) (lateLoss : Bool) (s : State) :
    LeavesSweep s (execNvmReadComplete bytes lateLoss s) := by
  unfold execNvmReadComplete
  split
  · split
    · exact .of_eq ((State.loaderTakes_sweep ..).trans (s.completeRead_sweep ..))
    · exact .of_eq rfl
  · exact .of_eq rfl

theorem execNackAbort_leavesSweep (s : State) : LeavesSweep s (execNackAbort s) := by
  unfold execNackAbort
  split
  · exact .of_eq (State.abort_sweep ..)
  · exact .of_eq rfl

theorem execStretchTimeout_leavesSweep (s : State) : LeavesSweep s (execStretchTimeout s) := by
  unfold execStretchTimeout
  split
  · exact .of_eq (State.abort_sweep ..)
  · exact .of_eq rfl

theorem execTotalTimeout_leavesSweep (sclHeldLow : Bool) (s : State) :
    LeavesSweep s (execTotalTimeout sclHeldLow s) := by
  unfold execTotalTimeout
  split
  · exact .of_eq (State.abort_sweep ..)
  · split <;> exact .of_eq (State.abort_sweep ..)
  · exact .of_eq rfl

/-! ### Packets, the guard, the line in hand and the drop notice -/

theorem execCtrl_leavesSweep (first code count : Byte) (operands : List Byte) (s : State) :
    LeavesSweep s (execCtrl first code count operands s) := by
  unfold execCtrl
  split <;> exact .of_eq rfl

theorem execUnknownCommand_leavesSweep (s : State) : LeavesSweep s (execUnknownCommand s) := by
  unfold execUnknownCommand
  split
  · split
    · exact .of_eq rfl
    · exact .of_eq (s.respond_sweep ..)
  · exact .of_eq rfl

theorem execFopen_leavesSweep (frame width height : Word16) (s : State) :
    LeavesSweep s (execFopen frame width height s) :=
  .of_eq ((State.fopenArrival_sweep _).trans s.truncateFrame_sweep)

theorem execLine_leavesSweep (row : Word16) (payload : List Pixel) (s : State) :
    LeavesSweep s (execLine row payload s) := by
  unfold execLine State.strayLine
  split
  · split <;> exact .of_eq rfl
  · exact .of_eq rfl
  · exact .of_eq rfl

theorem execFclose_leavesSweep (linesSent : Word16) (s : State) : LeavesSweep s (execFclose linesSent s) := by
  unfold execFclose
  dsimp only
  split
  · exact .of_eq rfl
  · exact .of_eq (State.offerIntake_sweep _)
  · exact .of_eq (State.offerIntake_sweep _)

theorem execGuardTimerExpiry_leavesSweep (s : State) : LeavesSweep s (execGuardTimerExpiry s) := by
  unfold execGuardTimerExpiry
  split
  · split <;> exact .of_eq rfl
  · exact .of_eq rfl

theorem State.examineLine_sweep (s : State) (f : FrameInHand) (l : LineInHand) :
    (s.examineLine f l).sweep = s.sweep := by
  obtain ⟨-, -, -, -, -, -, -, -, -, -, -, mapper, -⟩ := examineEntries_frame s.mapper.copy.modes f l.slot l.row
    (s.mapper.copy.entries.drop l.next) l.next s
  have fields : (s.examineLine f l).mapper = _ := mapper
  rw [State.sweep, fields]
  rfl

theorem execLineItem_leavesSweep (s : State) : LeavesSweep s (execLineItem s) := by
  unfold execLineItem
  split
  · exact .of_eq (State.examineLine_sweep ..)
  · exact .of_eq rfl

theorem execFrameEnd_leavesSweep (s : State) : LeavesSweep s (execFrameEnd s) := by
  unfold execFrameEnd
  split <;> exact .of_eq rfl

/-- A notice leaves the list alone (R83). -/
theorem Mapper.notice?_sweep {s : State} {n : Notice} {m : Mapper} (due : s.mapper.notice? = some (n, m)) :
    State.sweep { s with mapper := m } = s.sweep := by
  unfold Mapper.notice? at due
  split at due <;> cases due
  rfl

theorem execDropNotice_leavesSweep (s : State) : LeavesSweep s (execDropNotice s) := by
  unfold execDropNotice
  split
  · next due =>
    have taken := Mapper.notice?_sweep due
    exact .of_eq taken
  · exact .of_eq rfl

/-! ### The panel bus (R121 to R132) -/

theorem execGrant_leavesSweep (s : State) : LeavesSweep s (execGrant s) := by
  unfold execGrant
  split
  · split <;> exact .of_eq rfl
  · exact .of_eq rfl

theorem execTurnaroundDone_leavesSweep (s : State) : LeavesSweep s (execTurnaroundDone s) := by
  unfold execTurnaroundDone
  split <;> exact .of_eq rfl

theorem execRetryDone_leavesSweep (s : State) : LeavesSweep s (execRetryDone s) := by
  unfold execRetryDone
  split <;> exact .of_eq rfl

theorem execWindowAccepted_leavesSweep (s : State) : LeavesSweep s (execWindowAccepted s) := by
  unfold execWindowAccepted
  split <;> exact .of_eq rfl

theorem execReject_leavesSweep (s : State) : LeavesSweep s (execReject s) := by
  unfold execReject State.rejectRun
  split
  · split
    · dsimp only
      split <;> exact .of_eq rfl
    · exact .of_eq rfl
  · exact .of_eq rfl

theorem execHoldLimit_leavesSweep (pairsDone : Nat) (s : State) : LeavesSweep s (execHoldLimit pairsDone s) := by
  unfold execHoldLimit
  dsimp only
  split
  · split <;> exact .of_eq rfl
  · split <;> exact .of_eq rfl
  · exact .of_eq rfl

theorem execRunFinished_leavesSweep (s : State) : LeavesSweep s (execRunFinished s) := by
  unfold execRunFinished
  split <;> exact .of_eq rfl

/-! ### The commands, one by one -/

/-- The commands that form the fill list or move the cursor, and the resets, which clear both (R85, R96, R99, R100). -/
def movesSweep : Instr → Bool
  | .reset | .softReset | .frameSetUp | .waitingRunPlaced | .fillSweepRun | .postureNotice | .mapSetNotice
  | .guardStateNotice => true
  | _ => false

/-- Every other command leaves the fill list and the cursor as they are. -/
theorem exec_leavesSweep {c : Instr} (h : movesSweep c = false) (s : State) : LeavesSweep s (exec c s) := by
  cases c with
  | reset | softReset | frameSetUp | waitingRunPlaced | fillSweepRun | postureNotice | mapSetNotice
  | guardStateNotice => cases h
  | ctrl first code count operands => exact execCtrl_leavesSweep first code count operands s
  | unknownCommand => exact execUnknownCommand_leavesSweep s
  | slotClear => exact s.carryOut_leavesSweep _ _ _ _ fun _ => editActions_sweep (by simp) _ s
  | slotZones => exact s.carryOut_leavesSweep _ _ _ _ fun _ => editActions_sweep (by simp) _ s
  | entryPut => exact s.carryOut_leavesSweep _ _ _ _ fun _ => editActions_sweep (by simp) _ s
  | entryDrop => exact s.carryOut_leavesSweep _ _ _ _ fun _ => editActions_sweep (by simp) _ s
  | slotCheck => exact s.carryOut_leavesSweep _ _ _ _ fun _ => slotCheckAction_sweep _ s
  | slotRead => exact s.carryOut_leavesSweep _ _ _ _ fun _ => slotReadAction_sweep _ s
  | mapSet => exact s.carryOut_leavesSweep _ _ _ _ fun _ => mapSetAction_sweep _ s
  | faceSet => exact s.carryOut_leavesSweep _ _ _ _ fun _ => faceSetAction_sweep _ s
  | gainLoad => exact s.carryOut_leavesSweep _ _ _ _ fun _ => gainLoadAction_sweep _ s
  | angleSet => exact s.carryOut_leavesSweep _ _ _ _ fun _ => storeActions_sweep (by simp) _ s
  | angleCal => exact s.carryOut_leavesSweep _ _ _ _ fun _ => storeActions_sweep (by simp) _ s
  | gainPoints => exact s.carryOut_leavesSweep _ _ _ _ fun _ => storeActions_sweep (by simp) _ s
  | profileSet => exact s.carryOut_leavesSweep _ _ _ _ fun _ => storeActions_sweep (by simp) _ s
  | emitSet => exact s.carryOut_leavesSweep _ _ _ _ fun _ => storeActions_sweep (by simp) _ s
  | emitPeriod => exact s.carryOut_leavesSweep _ _ _ _ fun _ => storeActions_sweep (by simp) _ s
  | emitFade => exact s.carryOut_leavesSweep _ _ _ _ fun _ => storeActions_sweep (by simp) _ s
  | guardSet => exact s.carryOut_leavesSweep _ _ _ _ fun _ => storeActions_sweep (by simp) _ s
  | reportRead => exact s.carryOut_leavesSweep _ _ _ _ fun _ => storeActions_sweep (by simp) _ s
  | attnSet => exact s.carryOut_leavesSweep _ _ _ _ fun _ => storeActions_sweep (by simp) _ s
  | statusRead | faultClear | imageReload => exact s.carryOut_leavesSweep _ _ _ _ fun _ => rfl
  | fopen frame width height => exact execFopen_leavesSweep frame width height s
  | line row payload => exact execLine_leavesSweep row payload s
  | fclose linesSent => exact execFclose_leavesSweep linesSent s
  | sampleTimerExpiry => exact execSampleTimerExpiry_leavesSweep s
  | transactionStart => exact execTransactionStart_leavesSweep s
  | arbitrationLost => exact execArbitrationLost_leavesSweep s
  | sensorReadComplete first second lateLoss => exact execSensorReadComplete_leavesSweep first second lateLoss s
  | nvmReadComplete bytes lateLoss => exact execNvmReadComplete_leavesSweep bytes lateLoss s
  | nackAbort => exact execNackAbort_leavesSweep s
  | stretchTimeout => exact execStretchTimeout_leavesSweep s
  | totalTimeout sclHeldLow => exact execTotalTimeout_leavesSweep sclHeldLow s
  | lineItem => exact execLineItem_leavesSweep s
  | frameEnd => exact execFrameEnd_leavesSweep s
  | dropNotice => exact execDropNotice_leavesSweep s
  | grant => exact execGrant_leavesSweep s
  | turnaroundDone => exact execTurnaroundDone_leavesSweep s
  | windowAccepted => exact execWindowAccepted_leavesSweep s
  | reject => exact execReject_leavesSweep s
  | retryDone => exact execRetryDone_leavesSweep s
  | holdLimit pairsDone => exact execHoldLimit_leavesSweep pairsDone s
  | runFinished => exact execRunFinished_leavesSweep s
  | estopAsserted => exact .of_eq (State.estopActs_sweep _)
  | guardTimerExpiry => exact execGuardTimerExpiry_leavesSweep s
  | otherPacket | busStartSeen | busStopSeen | busIdleTimeout | busLineLow | periodEnd | estopReleased | tick
  | attnPulseEnd => exact .of_eq rfl

end Sys2Proof.Machine
end

section
/-! Runs and fills lie in their zones when the layouts that they come from obey the law (R15, R18, R89, R94, R95). -/

namespace Sys2Proof.Machine

open Sys2Proof.Safety

/-! ### The entries of a layout that may be READY (R6, R15, R18) -/

/-- The zone found for an entry is the one it lies inside, and the entry is aligned there (R2, R15). -/
theorem SlotGood.entry {l : Layout} (good : SlotGood ⟨.ready, l⟩) {e : Entry} (he : e ∈ l.entries) {z : Zone}
    (hz : e.dst.zone? = some z) :
    LiesIn e.dst z ∧ (e.dst.col % 2 = 0 ∧ e.dst.width % 2 = 0) ∧ 0 < e.dst.width ∧ 0 < e.dst.height := by
  obtain ⟨law, aligned⟩ := good.ready rfl
  obtain ⟨z', lies, -⟩ := law.inside e he
  have size := Entry.size_pos (good.ranges e he)
  exact ⟨(Rect.zone?_eq_some_iff z (Rect.inRaster_of_liesIn lies) size.1).mp hz, aligned e he, size⟩

/-- The copy runs of a layout's entries lie in their zones (R89). -/
theorem SlotGood.copyRun {l : Layout} (good : SlotGood ⟨.ready, l⟩) {modes : PerZone ZoneMode} {f : FrameInHand}
    {slot : Fin 32} {row : Nat} {e : Entry} (he : e ∈ l.entries) {r : Run}
    (gives : copyRun modes f slot row e = some r) : RunLaw r := by
  unfold Machine.copyRun at gives
  split at gives
  · next z _ hz =>
    split at gives
    · next rows =>
      cases gives
      obtain ⟨lies, ⟨-, even⟩, width, -⟩ := good.entry he hz
      simp only [LiesIn] at lies
      refine ⟨even, ?_, ?_, ?_, ?_⟩
      · show 2 ≤ e.dst.width
        omega
      · show e.dst.col - z.firstCol + e.dst.width ≤ z.width
        omega
      · show e.dst.row + (row - _) < panelRows
        omega
      · cases z <;> simp [RunSource.snapshot?, Run.isFill]
    · cases gives
  · cases gives

/-! ### The fill list (R94, R95) -/

theorem darkFill_law (z : Zone) : FillLaw (darkFill z) := by
  cases z <;> exact ⟨by decide, by decide, by decide, by decide, by decide⟩

/-- The item of a FILL entry is its rectangle, in the zone it lies inside (R94). -/
theorem Entry.fillItem?_eq_some {e : Entry} {item : FillItem} (h : e.fillItem? = some item) :
    e.body = .fill item.colour ∧ e.dst.zone? = some item.driver
      ∧ item = ⟨item.driver, e.dst.col - item.driver.firstCol, e.dst.row, e.dst.width, e.dst.height, item.colour⟩ := by
  unfold Entry.fillItem? at h
  split at h
  · next body zone =>
    cases h
    exact ⟨body, zone, rfl⟩
  · cases h

theorem SlotGood.fillItem {l : Layout} (good : SlotGood ⟨.ready, l⟩) {e : Entry} (he : e ∈ l.entries)
    {item : FillItem} (h : e.fillItem? = some item) : FillLaw item := by
  obtain ⟨-, zone, fields⟩ := Entry.fillItem?_eq_some h
  obtain ⟨lies, ⟨-, even⟩, width, height⟩ := good.entry he zone
  simp only [LiesIn] at lies
  rw [fields]
  exact ⟨even, by dsimp only; omega, by dsimp only; omega, lies.2.2, height⟩

/-- Every item of the fill list of a layout lies in its zone (R94). -/
theorem SlotGood.fillList {l : Layout} (good : SlotGood ⟨.ready, l⟩) : ∀ item ∈ l.fillList, FillLaw item := by
  intro item hitem
  rcases List.mem_append.mp hitem with dark | filled
  · obtain ⟨z, -, rfl⟩ := List.mem_map.mp dark
    exact darkFill_law z
  · obtain ⟨e, he, h⟩ := List.mem_filterMap.mp filled
    exact good.fillItem he h

/-- The fill run at a row of an item lies in the item's zone (R95). -/
theorem FillItem.run_law {item : FillItem} (law : FillLaw item) {row : Nat} (inside : row < item.row + item.height) :
    RunLaw (item.run row) :=
  ⟨law.even, law.least, law.columns, inside.trans_le law.rows,
    iff_of_false Bool.false_ne_true fun h => Bool.false_ne_true h.2.symm⟩

/-! ### The sweep (R95, R96, R98) -/

/-- A cursor stands on a row of its item (R96). -/
def CursorOn (items : List FillItem) (c : Cursor) : Prop :=
  ∃ item, items[c.item]? = some item ∧ item.row ≤ c.row ∧ c.row < item.row + item.height

/-- The items lie in their zones and the cursor stands on a row of one of them. -/
structure SweepLaw (sweep : List FillItem × Option Cursor) : Prop where
  fills : ∀ item ∈ sweep.1, FillLaw item
  cursor : ∀ c, sweep.2 = some c → CursorOn sweep.1 c

/-- The fill list and the cursor when a sweep of these items starts (R85, R98). -/
def startedSweep (items : List FillItem) : List FillItem × Option Cursor :=
  (items, items.head?.map fun item => ⟨0, item.row⟩)

/-- A cursor on the first row of an item of the list. -/
theorem CursorOn.first {items : List FillItem} (fills : ∀ item ∈ items, FillLaw item) {n : Nat} {item : FillItem}
    (there : items[n]? = some item) : CursorOn items ⟨n, item.row⟩ :=
  ⟨item, there, Nat.le_refl _, Nat.lt_add_of_pos_right (fills item (List.mem_of_getElem? there)).height⟩

theorem SweepLaw.start {items : List FillItem} (fills : ∀ item ∈ items, FillLaw item) :
    SweepLaw (startedSweep items) := by
  refine ⟨fills, fun c h => ?_⟩
  obtain ⟨item, head, rfl⟩ := Option.map_eq_some_iff.mp h
  exact .first fills (List.head?_eq_getElem? ▸ head)

/-- The cursor advances to the next row, to the first row of the next item, or to IDLE (R96). -/
theorem CursorOn.next {items : List FillItem} (fills : ∀ item ∈ items, FillLaw item) {c c' : Cursor}
    (on : CursorOn items c) (h : nextCursor items c = some c') : CursorOn items c' := by
  obtain ⟨item, there, least, -⟩ := on
  simp only [nextCursor, there] at h
  split at h
  · next more =>
    cases h
    exact ⟨item, there, Nat.le_succ_of_le least, more⟩
  · obtain ⟨later, there', rfl⟩ := Option.map_eq_some_iff.mp h
    exact .first fills there'

theorem SweepLaw.next {items : List FillItem} {cursor : Option Cursor} (law : SweepLaw (items, cursor)) :
    SweepLaw (items, cursor.bind (nextCursor items)) := by
  refine ⟨law.fills, fun c' h => ?_⟩
  obtain ⟨c, hc, advanced⟩ := Option.bind_eq_some_iff.mp h
  exact (law.cursor c hc).next law.fills advanced

/-- The fill run at the cursor lies in its zone (R95, R96). -/
theorem SweepLaw.run {s : State} (law : SweepLaw s.sweep) {c : Cursor} (hc : s.mapper.cursor = some c)
    {item : FillItem} (there : s.mapper.fillList[c.item]? = some item) : RunLaw (item.run c.row) := by
  obtain ⟨item', there', -, inside⟩ := law.cursor c hc
  obtain rfl : item = item' := Option.some.inj (there.symm.trans there')
  exact FillItem.run_law (law.fills item (List.mem_of_getElem? there)) inside

/-! ### What a takeover does to the sweep (R84, R85, R99, R100) -/

/-- The sweep stays, or starts over items of the copy taken over (R85). -/
def SweepFromCopy (s t : State) (copy : Layout) : Prop :=
  t.sweep = s.sweep ∨ ∃ items, items ⊆ copy.fillList ∧ t.sweep = startedSweep items

theorem SweepFromCopy.keeps {s t : State} {copy : Layout} (from_copy : SweepFromCopy s t copy)
    (good : SlotGood ⟨.ready, copy⟩) (law : SweepLaw s.sweep) : SweepLaw t.sweep := by
  rcases from_copy with same | ⟨items, sub, started⟩
  · exact same ▸ law
  · rw [started]
    exact .start fun item h => good.fillList item (sub h)

theorem Mapper.repaintList_subset (m : Mapper) (slotChanged : Bool) :
    m.repaintList slotChanged ⊆ m.copy.fillList := by
  unfold Mapper.repaintList
  split
  · exact List.filter_subset_self _
  · exact List.Subset.refl _

theorem State.setUpFrame_sweep (s : State) (number : Word16) (width height : Nat) :
    SweepFromCopy s (s.setUpFrame number width height) s.copyLayout.mapper.copy := by
  unfold State.setUpFrame
  dsimp only
  split
  · exact .inr ⟨_, Mapper.repaintList_subset _ _, rfl⟩
  · exact .inl rfl

theorem State.standaloneApply_sweep (s : State) :
    SweepFromCopy s s.standaloneApply s.copyLayout.mapper.copy := by
  unfold State.standaloneApply
  dsimp only
  split
  · exact .inr ⟨_, List.Subset.refl _, rfl⟩
  · exact .inl rfl

end Sys2Proof.Machine
end

section
/-! Every step keeps every run and every fill inside its zone, and the cursor on a row of its item (R89, R94 to R96,
R120). -/

namespace Sys2Proof.Machine

open Sys2Proof.Safety

/-! ### The runs of the part -/

/-- A run is queued, in transfer or waiting (R91, R120). -/
def State.HasRun (s : State) (r : Run) : Prop :=
  (∃ d, r ∈ s.engine.queues.get d) ∨ s.engine.inTransfer = some r ∨ s.mapper.waitingRun = some r

/-- Every run lies in its zone. -/
def RunsInZones (s : State) : Prop := ∀ r, s.HasRun r → RunLaw r

/-- The runs and the sweep obey their laws. -/
structure ZonesLaw (s : State) : Prop where
  runs : RunsInZones s
  sweep : SweepLaw s.sweep

theorem runsLaw_iff (s : State) : RunsLaw s ↔ LayoutsLaw s ∧ ZonesLaw s := by
  constructor
  · rintro ⟨layouts, held, waiting, fills, cursor⟩
    refine ⟨layouts, fun r has => ?_, fills, cursor⟩
    rcases has with queued | transfer | waits
    · exact held r (mem_heldRuns.mpr (.inl queued))
    · exact held r (mem_heldRuns.mpr (.inr transfer))
    · exact waiting r waits
  · rintro ⟨layouts, runs, fills, cursor⟩
    refine ⟨layouts, fun r held => ?_, fun r waits => runs r (.inr (.inr waits)), fills, cursor⟩
    exact runs r ((mem_heldRuns.mp held).imp_right .inl)

/-- The law of a run does not speak of its attempts. -/
theorem Run.setAttempts_law {r : Run} (law : RunLaw r) (n : Nat) : RunLaw { r with attempts := n } :=
  ⟨law.even, law.least, law.columns, law.row, law.snapshot⟩

/-- Fewer runs, on queues, in transfer and waiting. -/
theorem RunsInZones.of_fewer {s t : State} (h : RunsInZones s)
    (queued : ∀ d, t.engine.queues.get d ⊆ s.engine.queues.get d)
    (transfer : ∀ r, t.engine.inTransfer = some r → RunLaw r)
    (waiting : ∀ r, t.mapper.waitingRun = some r → s.mapper.waitingRun = some r) : RunsInZones t := by
  rintro r (⟨d, hr⟩ | hr | hr)
  · exact h r (.inl ⟨d, queued d hr⟩)
  · exact transfer r hr
  · exact h r (.inr (.inr (waiting r hr)))

/-- The same runs. -/
theorem RunsInZones.of_eq {s t : State} (h : RunsInZones s) (queues : t.engine.queues = s.engine.queues)
    (transfer : t.engine.inTransfer = s.engine.inTransfer)
    (waiting : t.mapper.waitingRun = s.mapper.waitingRun) : RunsInZones t := by
  intro r has
  rw [State.HasRun, queues, transfer, waiting] at has
  exact h r has

theorem RunsInZones.of_traffic {s t : State} (h : RunsInZones s) (traffic : t.traffic = s.traffic) :
    RunsInZones t :=
  h.of_eq (congrArg Traffic.queues traffic) (congrArg Traffic.inTransfer traffic)
    (congrArg Traffic.waitingRun traffic)

/-- The mapper's waiting run leaves, or is withdrawn. -/
theorem RunsInZones.setMapper {s : State} (h : RunsInZones s) {m : Mapper}
    (waiting : ∀ r, m.waitingRun = some r → RunLaw r) : RunsInZones { s with mapper := m } := by
  rintro r (queued | transfer | waits)
  · exact h r (.inl queued)
  · exact h r (.inr (.inl transfer))
  · exact waiting r waits

theorem RunsInZones.withdrawFill {s : State} (h : RunsInZones s) :
    RunsInZones { s with mapper := s.mapper.withdrawFill } :=
  h.setMapper fun r waits => h r (.inr (.inr (Mapper.withdrawFill_waits.mp waits).1))

/-! ### Runs that are placed (R88 to R96) -/

theorem RunsInZones.placeRun {s : State} (h : RunsInZones s) {r : Run} (law : RunLaw r) :
    RunsInZones (s.placeRun r) := by
  rintro r' (⟨d, hr⟩ | transfer | waits)
  · rw [s.placeRun_queue] at hr
    split at hr
    · rcases List.mem_append.mp hr with old | new
      · exact h r' (.inl ⟨_, old⟩)
      · rw [List.mem_singleton.mp new]
        exact law
    · exact h r' (.inl ⟨d, hr⟩)
  · exact h r' (.inr (.inl transfer))
  · exact h r' (.inr (.inr waits))

/-- The runs of a line lie in their zones when every entry's does (R88, R91). -/
theorem RunsInZones.examineEntries {modes : PerZone ZoneMode} {f : FrameInHand} {slot : Fin 32} {row : Nat}
    {es : List Entry} (give : ∀ e ∈ es, ∀ r, copyRun modes f slot row e = some r → RunLaw r) (i : Nat) {s : State}
    (h : RunsInZones s) : RunsInZones (examineEntries modes f slot row es i s) := by
  induction es generalizing i s with
  | nil => exact h.setMapper fun r waits => h r (.inr (.inr waits))
  | cons e es ih =>
    have later := fun e' he' => give e' (.tail _ he')
    rw [Machine.examineEntries]
    split
    · exact ih later _ h
    · next r gives =>
      have law := give e (.head _) r gives
      split
      · exact ih later _ (h.placeRun law)
      · refine h.setMapper fun r' waits => ?_
        obtain rfl : r = r' := Option.some.inj waits
        exact law

theorem RunsInZones.examineLine {s : State} (h : RunsInZones s) (good : SlotGood ⟨.ready, s.mapper.copy⟩)
    (f : FrameInHand) (l : LineInHand) : RunsInZones (s.examineLine f l) :=
  h.examineEntries (fun _ he _ gives => good.copyRun (List.mem_of_mem_drop he) gives) _

/-! ### The mapper's commands (R83 to R101) -/

theorem execFrameSetUp_keepsZones {s : State} (layouts : LayoutsLaw s) (law : ZonesLaw s) :
    Answers ZonesLaw (execFrameSetUp s) := by
  unfold execFrameSetUp
  split
  · next number width height rest _ _ =>
    have same : SameLayouts s { s.takeItem rest with mapper := s.mapper.withdrawFill } := ⟨rfl, rfl⟩
    have copy := ((layoutsLaw_iff _).mp (State.copyLayout_keeps (same.keeps layouts))).2
    obtain ⟨f, quiet⟩ := State.setUpFrame_quiet
      { s.takeItem rest with mapper := s.mapper.withdrawFill } number width height
    refine ⟨_, rfl, RunsInZones.of_traffic ?_ quiet.traffic,
      (State.setUpFrame_sweep _ number width height).keeps copy law.sweep⟩
    exact law.runs.withdrawFill.of_eq rfl rfl rfl
  · exact ⟨_, rfl, law⟩

theorem execLineItem_keepsRuns {s : State} (layouts : LayoutsLaw s) (h : RunsInZones s) :
    Answers RunsInZones (execLineItem s) := by
  unfold execLineItem
  split
  · refine ⟨_, rfl, RunsInZones.examineLine ?_ ?_ _ _⟩
    · exact h.of_eq rfl rfl rfl
    · exact ((layoutsLaw_iff s).mp layouts).2
  · exact ⟨_, rfl, h⟩

/-- A fill run is placed and the cursor advances (R96). -/
theorem ZonesLaw.placeFill {s : State} (law : ZonesLaw s) {r : Run} (inZone : RunLaw r) : ZonesLaw (s.placeFill r) where
  runs := (law.runs.placeRun inZone).setMapper fun r waits => law.runs r (.inr (.inr waits))
  sweep := law.sweep.next

theorem execFillSweepRun_keepsZones {s : State} (law : ZonesLaw s) : Answers ZonesLaw (execFillSweepRun s) := by
  unfold execFillSweepRun
  split
  · next c _ cursor =>
    split
    · exact ⟨_, rfl, law⟩
    · next item there =>
      have inZone := law.sweep.run cursor there
      dsimp only
      split
      · exact ⟨_, rfl, law.placeFill inZone⟩
      · refine ⟨_, rfl, law.runs.setMapper fun r waits => ?_, law.sweep⟩
        obtain rfl : item.run c.row = r := Option.some.inj waits
        exact inZone
  · exact ⟨_, rfl, law⟩

theorem execWaitingRunPlaced_keepsZones {s : State} (layouts : LayoutsLaw s) (law : ZonesLaw s) :
    Answers ZonesLaw (execWaitingRunPlaced s) := by
  unfold execWaitingRunPlaced
  split
  · exact ⟨_, rfl, law⟩
  · next r waits =>
    have inZone := law.runs r (.inr (.inr waits))
    have lifted : ZonesLaw { s with mapper := { s.mapper with waitingRun := none } } :=
      ⟨law.runs.setMapper nofun, law.sweep⟩
    have placed := lifted.runs.placeRun inZone
    split
    · dsimp only
      split
      · exact ⟨_, rfl, lifted.placeFill inZone⟩
      · split
        · next l f _ _ =>
          refine ⟨_, rfl, placed.examineLine ((layoutsLaw_iff s).mp layouts).2 f l, ?_⟩
          rw [State.examineLine_sweep]
          exact law.sweep
        · exact ⟨_, rfl, placed, law.sweep⟩
    · exact ⟨_, rfl, law⟩

/-! ### Notices (R99 to R102) -/

theorem State.standaloneApply_keepsZones {s : State} (layouts : LayoutsLaw s) (law : ZonesLaw s) :
    ZonesLaw s.standaloneApply where
  runs := law.runs.withdrawFill.of_traffic s.standaloneApply_quiet.traffic
  sweep := s.standaloneApply_sweep.keeps ((layoutsLaw_iff _).mp (State.copyLayout_keeps layouts)).2 law.sweep

/-- A change of the mapper that has no part in the runs and the sweep. -/
theorem ZonesLaw.of_same {s t : State} (law : ZonesLaw s) (traffic : t.traffic = s.traffic)
    (sweep : t.sweep = s.sweep) : ZonesLaw t :=
  ⟨law.runs.of_traffic traffic, sweep ▸ law.sweep⟩

theorem State.layoutNotice_keepsZones {s : State} (layouts : LayoutsLaw s) (law : ZonesLaw s) :
    ZonesLaw s.layoutNotice := by
  unfold State.layoutNotice
  split
  · exact law.of_same rfl rfl
  · exact State.standaloneApply_keepsZones layouts law
  · exact State.standaloneApply_keepsZones layouts law

theorem State.guardNotice_keepsZones {s : State} (layouts : LayoutsLaw s) (law : ZonesLaw s) (new : GuardState) :
    ZonesLaw (s.guardNotice new) := by
  unfold State.guardNotice
  dsimp only
  split
  · exact State.standaloneApply_keepsZones (SameLayouts.keeps layouts ⟨rfl, rfl⟩) (law.of_same rfl rfl)
  · exact law.of_same rfl rfl

/-- The state in which a notice has been taken. -/
theorem Mapper.notice?_keepsZones {s : State} (law : ZonesLaw s) {n : Notice} {m : Mapper}
    (due : s.mapper.notice? = some (n, m)) : ZonesLaw { s with mapper := m } :=
  law.of_same (Mapper.notice?_quiet due).traffic (Mapper.notice?_sweep due)

theorem execPostureNotice_keepsZones {s : State} (layouts : LayoutsLaw s) (law : ZonesLaw s) :
    Answers ZonesLaw (execPostureNotice s) := by
  unfold execPostureNotice
  split
  · next due =>
    exact ⟨_, rfl, State.layoutNotice_keepsZones (Mapper.notice?_keeps layouts due) (Mapper.notice?_keepsZones law due)⟩
  · exact ⟨_, rfl, law⟩

theorem execMapSetNotice_keepsZones {s : State} (layouts : LayoutsLaw s) (law : ZonesLaw s) :
    Answers ZonesLaw (execMapSetNotice s) := by
  unfold execMapSetNotice
  split
  · next due =>
    exact ⟨_, rfl, State.layoutNotice_keepsZones (Mapper.notice?_keeps layouts due) (Mapper.notice?_keepsZones law due)⟩
  · exact ⟨_, rfl, law⟩

theorem execGuardStateNotice_keepsZones {s : State} (layouts : LayoutsLaw s) (law : ZonesLaw s) :
    Answers ZonesLaw (execGuardStateNotice s) := by
  unfold execGuardStateNotice
  split
  · next new _ due =>
    exact ⟨_, rfl,
      State.guardNotice_keepsZones (Mapper.notice?_keeps layouts due) (Mapper.notice?_keepsZones law due) new⟩
  · exact ⟨_, rfl, law⟩

/-! ### FRAME_END and the panel bus (R93, R121 to R132) -/

section

variable {s : State} (h : RunsInZones s)

include h

/-- The run in transfer has ended (R130, R132). -/
theorem RunsInZones.ended {t : State} (queues : t.engine.queues = s.engine.queues)
    (transfer : t.engine.inTransfer = none) (waiting : t.mapper.waitingRun = s.mapper.waitingRun) :
    RunsInZones t := by
  refine h.of_fewer (fun d => ?_) (fun r hr => ?_) fun r waits => ?_
  · rw [queues]
    exact List.Subset.refl _
  · rw [transfer] at hr
    cases hr
  · exact waiting ▸ waits

/-- A WINDOW is a new attempt of the run in transfer (R127). -/
theorem RunsInZones.startWindow {r : Run} (run : s.engine.inTransfer = some r) :
    RunsInZones { s with engine := s.engine.startWindow r } := by
  refine h.of_fewer (fun d => List.Subset.refl _) (fun r' hr => ?_) fun r' waits => waits
  obtain rfl : { r with attempts := r.attempts + 1 } = r' := Option.some.inj hr
  exact Run.setAttempts_law (h r (.inr (.inl run))) _

/-- GRANT moves the head of a queue into transfer (R123). -/
theorem RunsInZones.granted {d : Driver} {r : Run} {rest : List Run} (head : s.engine.queues.get d = r :: rest) :
    RunsInZones { s with engine := s.engine.grantRun d r rest } := by
  have inZone : RunLaw r := h r (.inl ⟨d, by rw [head]; exact .head _⟩)
  refine h.of_fewer (fun d' => ?_) (fun r' hr => ?_) fun r' waits => waits
  · show (s.engine.grantRun d r rest).queues.get d' ⊆ _
    rw [s.engine.grantRun_queues]
    by_cases same : d' = d
    · subst same
      rw [PerZone.get_set_same, head]
      exact List.subset_cons_self _ _
    · rw [PerZone.get_set_other _ _ same]
      exact List.Subset.refl _
  · have hr : (s.engine.grantRun d r rest).inTransfer = some r' := hr
    rcases s.engine.grantRun_cases d r rest with ⟨-, run⟩ | ⟨-, -, run⟩
    · obtain rfl := Option.some.inj (run.symm.trans hr)
      exact Run.setAttempts_law inZone _
    · obtain rfl := Option.some.inj (run.symm.trans hr)
      exact inZone

theorem execGrant_keepsRuns : Answers RunsInZones (execGrant s) := by
  unfold execGrant
  split
  · split
    · next head => exact ⟨_, rfl, h.granted head⟩
    · exact ⟨_, rfl, h⟩
  · exact ⟨_, rfl, h⟩

theorem execTurnaroundDone_keepsRuns : Answers RunsInZones (execTurnaroundDone s) := by
  unfold execTurnaroundDone
  split
  · next run => exact ⟨_, rfl, h.startWindow run⟩
  · exact ⟨_, rfl, h⟩

theorem execRetryDone_keepsRuns : Answers RunsInZones (execRetryDone s) := by
  unfold execRetryDone
  split
  · next run => exact ⟨_, rfl, h.startWindow run⟩
  · exact ⟨_, rfl, h⟩

theorem execWindowAccepted_keepsRuns : Answers RunsInZones (execWindowAccepted s) := by
  unfold execWindowAccepted
  split
  · exact ⟨_, rfl, h.of_eq rfl rfl rfl⟩
  · exact ⟨_, rfl, h⟩

theorem execReject_keepsRuns : Answers RunsInZones (execReject s) := by
  unfold execReject State.rejectRun
  split
  · split
    · dsimp only
      split
      · exact ⟨_, rfl, h.of_eq rfl rfl rfl⟩
      · exact ⟨_, rfl, h.ended rfl rfl rfl⟩
    · exact ⟨_, rfl, h⟩
  · exact ⟨_, rfl, h⟩

theorem execHoldLimit_keepsRuns (pairsDone : Nat) : Answers RunsInZones (execHoldLimit pairsDone s) := by
  unfold execHoldLimit
  dsimp only
  split
  · split
    · exact ⟨_, rfl, h.ended rfl rfl rfl⟩
    · exact ⟨_, rfl, h⟩
  · split
    · exact ⟨_, rfl, h.ended rfl rfl rfl⟩
    · exact ⟨_, rfl, h⟩
  · exact ⟨_, rfl, h⟩

theorem execRunFinished_keepsRuns : Answers RunsInZones (execRunFinished s) := by
  unfold execRunFinished
  split
  · exact ⟨_, rfl, h.ended rfl rfl rfl⟩
  · exact ⟨_, rfl, h⟩

theorem execFrameEnd_keepsRuns : Answers RunsInZones (execFrameEnd s) := by
  unfold execFrameEnd
  split
  · exact ⟨_, rfl, h.of_eq rfl rfl rfl⟩
  · exact ⟨_, rfl, h⟩

end

/-! ### The commands, one by one -/

theorem State.resetPart_keepsZones (s : State) : ZonesLaw s.resetPart := by
  refine ((runsLaw_iff _).mp reset_runsLaw).2.of_same s.resetPart_quiet.traffic ?_
  rw [s.resetPart_eq, State.estopActs_sweep]
  rfl

theorem execSoftReset_keepsZones {s : State} (law : ZonesLaw s) : Answers ZonesLaw (execSoftReset s) := by
  unfold execSoftReset
  split
  · exact ⟨_, rfl, law⟩
  · exact ⟨_, rfl, law.of_same (s.respond_quiet ..).traffic (s.respond_sweep ..)⟩
  · exact ⟨_, rfl, State.resetPart_keepsZones _⟩

/-- A packet of a frame has no part in the runs (R64 to R77). -/
theorem RunsInZones.packets {s t : State} (h : RunsInZones s) (moves : PacketMoves s t) : RunsInZones t := by
  obtain ⟨_, _, _, _, quiet⟩ := moves
  refine RunsInZones.of_traffic ?_ quiet.traffic
  exact h.of_eq rfl rfl rfl

/-- Outside the sweep, a command keeps the runs in their zones. -/
theorem exec_keepsRuns {c : Instr} (other : movesSweep c = false) {s : State} (layouts : LayoutsLaw s)
    (h : RunsInZones s) : Answers RunsInZones (exec c s) := by
  cases c with
  | reset | softReset | frameSetUp | waitingRunPlaced | fillSweepRun | postureNotice | mapSetNotice
  | guardStateNotice => cases other
  | fopen frame width height => exact (exec_fopen_moves frame width height s).mono fun _ => h.packets
  | line row payload => exact (exec_line_moves row payload s).mono fun _ => h.packets
  | fclose linesSent => exact (exec_fclose_moves linesSent s).mono fun _ => h.packets
  | lineItem => exact execLineItem_keepsRuns layouts h
  | frameEnd => exact execFrameEnd_keepsRuns h
  | grant => exact execGrant_keepsRuns h
  | turnaroundDone => exact execTurnaroundDone_keepsRuns h
  | windowAccepted => exact execWindowAccepted_keepsRuns h
  | reject => exact execReject_keepsRuns h
  | retryDone => exact execRetryDone_keepsRuns h
  | holdLimit pairsDone => exact execHoldLimit_keepsRuns h pairsDone
  | runFinished => exact execRunFinished_keepsRuns h
  | _ => exact (exec_quiet rfl s).mono fun _ quiet => h.of_traffic quiet.traffic

/-- Two properties of the one answer. -/
theorem Answers.and {P Q : State → Prop} {r : Result} (h : Answers P r) (h' : Answers Q r) :
    Answers (fun t => P t ∧ Q t) r := by
  obtain ⟨t, rfl, ht⟩ := h
  obtain ⟨t', same, ht'⟩ := h'
  cases same
  exact ⟨t, rfl, ht, ht'⟩

/-- Every command keeps the runs in their zones and the sweep's law. -/
theorem exec_keepsZones (c : Instr) {s : State} (layouts : LayoutsLaw s) (law : ZonesLaw s) :
    Answers ZonesLaw (exec c s) := by
  cases moves : movesSweep c with
  | false =>
    refine ((exec_keepsRuns moves layouts law.runs).and (exec_leavesSweep moves s)).mono fun t ⟨runs, sweep⟩ => ?_
    exact ⟨runs, sweep ▸ law.sweep⟩
  | true =>
    cases c with
    | reset => exact ⟨_, rfl, s.resetPart_keepsZones⟩
    | softReset => exact execSoftReset_keepsZones law
    | frameSetUp => exact execFrameSetUp_keepsZones layouts law
    | waitingRunPlaced => exact execWaitingRunPlaced_keepsZones layouts law
    | fillSweepRun => exact execFillSweepRun_keepsZones law
    | postureNotice => exact execPostureNotice_keepsZones layouts law
    | mapSetNotice => exact execMapSetNotice_keepsZones layouts law
    | guardStateNotice => exact execGuardStateNotice_keepsZones layouts law
    | _ => cases moves

/-- Settles O53: the layouts' law is kept already; under it every command keeps the runs and the sweep, command by
command where the sweep moves, and because no run is new or changed elsewhere. -/
theorem everyStepKeepsRunsInTheirZones : Obligations.EveryStepKeepsRunsInTheirZones := by
  intro s t law hstep
  refine step_keeps (P := RunsLaw) (fun s law => ?_) (fun s rest law => ?_) (fun c s law => ?_) law hstep
  · obtain ⟨layouts, zones⟩ := (runsLaw_iff s).mp law
    have same : SameLayouts s s.timePasses := ⟨rfl, rfl⟩
    exact (runsLaw_iff _).mpr ⟨same.keeps layouts, zones.runs.of_eq rfl rfl rfl, zones.sweep⟩
  · obtain ⟨layouts, zones⟩ := (runsLaw_iff s).mp law
    have same : SameLayouts s { s with pending := rest } := ⟨rfl, rfl⟩
    exact (runsLaw_iff _).mpr ⟨same.keeps layouts, zones.of_same rfl rfl⟩
  · obtain ⟨layouts, zones⟩ := (runsLaw_iff s).mp law
    have kept : Answers LayoutsLaw (exec c s) := exec_keepsLayouts layouts c
    exact (kept.and (exec_keepsZones c layouts zones)).mono fun t => (runsLaw_iff t).mpr

end Sys2Proof.Machine
end

section
/-! A finished run: what its pixels leave in GRAM, and what its end releases (R90, R115, R129, R130). -/

namespace Sys2Proof.Machine

open Sys2Proof.Safety

/-! ### The log of transfers (log 13) -/

/-- The last transfer hides the earlier ones where it covers a pixel. -/
theorem gramAt_append (log : List PanelTransfer) (t : PanelTransfer) (d : Driver) (row col : Nat) :
    gramAt (log ++ [t]) d row col = (t.pixelAt d row col).or (gramAt log d row col) := by
  rw [gramAt, List.reverse_append, List.reverse_singleton, List.singleton_append, List.findSome?_cons]
  cases t.pixelAt d row col <;> rfl

/-- Pixels sent to a row cover as many columns of it as there are pixels (R129). -/
theorem gramAt_append_pixels (log : List PanelTransfer) (d' : Driver) (row' first : Nat) (pixels : List Pixel)
    (d : Driver) (row col : Nat) :
    gramAt (log ++ [.pixels d' row' first pixels]) d row col =
      if d = d' ∧ row = row' ∧ first ≤ col ∧ col < first + pixels.length then pixels[col - first]?
      else gramAt log d row col := by
  rw [gramAt_append, PanelTransfer.pixelAt]
  by_cases here : d' = d ∧ row' = row ∧ first ≤ col
  · obtain ⟨rfl, rfl, from_first⟩ := here
    rw [if_pos ⟨rfl, rfl, from_first⟩]
    by_cases inside : col < first + pixels.length
    · rw [if_pos ⟨rfl, rfl, from_first, inside⟩, List.getElem?_eq_getElem (by omega)]
      rfl
    · rw [if_neg fun h => inside h.2.2.2, List.getElem?_eq_none (by omega)]
      rfl
  · rw [if_neg here, if_neg fun ⟨hd, hrow, hfirst, _⟩ => here ⟨hd.symm, hrow.symm, hfirst⟩]
    rfl

/-! ### The pixels of a run (R90, R115, R129) -/

/-- What stands in GRAM after pairs of a run have been sent (R129). -/
theorem State.gramAt_sendPairs (s : State) (r : Run) (pairs : Nat) (d : Driver) (row col : Nat) :
    gramAt (s.sendPairs r pairs).outside.panelBus d row col =
      if d = r.driver ∧ row = r.row ∧ r.firstCol ≤ col ∧ col < r.firstCol + 2 * pairs then
        some (s.runPixel r (col - r.firstCol))
      else gramAt s.outside.panelBus d row col := by
  have sent : (s.sendPairs r pairs).outside.panelBus =
    s.outside.panelBus ++ [.pixels r.driver r.row r.firstCol (s.runPixels r pairs)] := rfl
  rw [sent, gramAt_append_pixels, s.runPixels_length]
  split
  · next inside =>
    refine s.runPixels_getElem? r pairs ?_
    rw [s.runPixels_length]
    omega
  · rfl

/-- The default that a look-up outside the 72 gains would give is not read inside them. -/
theorem getD_gains (gains : Vector Nat 72) {col : Nat} (h : col < 72) (a b : Nat) :
    gains.toList.getD col a = gains.toList.getD col b := by
  have inside : col < gains.toList.length := by simpa using h
  rw [List.getD_eq_getElem _ _ inside, List.getD_eq_getElem _ _ inside]

section

variable {s : State} {r : Run} {slot : Fin 32} {srcCol width : Nat} {mirror : Bool}

/-- A copy run without a snapshot sends the line's pixel at the source column (R90). -/
theorem State.runPixel_copy (source : r.source = .copy slot srcCol mirror width none) (i : Nat) :
    s.runPixel r i = sourcePixel (s.intake.linePixels slot) width (sourceColumn srcCol r.count mirror i) := by
  unfold State.runPixel
  rw [source]

/-- A copy run with a snapshot scales it by the gain of the destination column (R115). -/
theorem State.runPixel_scaled {n : Fin 2} (source : r.source = .copy slot srcCol mirror width (some n)) {i col : Nat}
    (here : r.firstCol + i = col) (columns : col < 72) :
    s.runPixel r i = scalePixel (s.gain.buffers[n].gains.toList.getD col 0)
      (sourcePixel (s.intake.linePixels slot) width (sourceColumn srcCol r.count mirror i)) := by
  unfold State.runPixel
  rw [source, here, getD_gains _ columns 0 1024]

end

/-! ### What the end of a run releases (R67, R114, R130) -/

theorem State.closeRun_buffers (s : State) (r : Run) (n : Fin 2) :
    (s.closeRun r).gain.buffers[n] =
      if r.source.snapshot? = some n then { s.gain.buffers[n] with refs := s.gain.buffers[n].refs - 1 }
      else s.gain.buffers[n] := by
  have released : (s.closeRun r).gain = match r.source.snapshot? with
    | some m => s.gain.changeRefs m (· - 1)
    | none => s.gain := rfl
  rw [released]
  cases r.source.snapshot? with
  | none => rfl
  | some m =>
    refine (s.gain.changeRefs_buffers m n _).trans ?_
    by_cases h : n = m
    · subst h
      rw [if_pos rfl, if_pos rfl]
    · rw [if_neg h, if_neg fun e => h (Option.some.inj e).symm]

theorem State.closeRun_releases (s : State) (r : Run) : ReferencesReleased s (s.closeRun r) r where
  line := s.closeRun_lines r
  snapshot := s.closeRun_buffers r
  intake := s.releaseRunRefs_intake r
  gain := s.releaseRunRefs_gain r

/-- Settles O51: the one transfer that the run adds to the log, and the end of the run. -/
theorem runFinishedWritesGram : Obligations.RunFinishedWritesGram := by
  intro s r data run even spine scaled pixel
  have finishes : exec .runFinished s =
      .next (State.closeRun { s.sendPairs r r.pairs with engine := { s.engine with holdCount := 0 } } r) := by
    simp only [exec, execRunFinished, data, run]
  have count : 2 * r.pairs = r.count := by
    rw [Run.pairs]
    omega
  refine ⟨_, finishes, fun d row col => ?_, ?_, rfl, rfl, rfl, rfl, rfl, rfl, rfl, rfl, rfl, rfl, rfl, rfl, rfl⟩
  · refine (s.gramAt_sendPairs r r.pairs d row col).trans ?_
    rw [count]
    split
    · next inside =>
      obtain ⟨-, -, first, last⟩ := inside
      refine congrArg some ?_
      simp only [pixel]
      cases source : r.source with
      | fill colour => simp only [State.runPixel, source]
      | copy slot srcCol mirror width snapshot =>
        cases snapshot with
        | none => exact State.runPixel_copy source _
        | some n =>
          have columns := spine (by rw [source]; rfl)
          exact State.runPixel_scaled source (Nat.add_sub_cancel' first) (last.trans_le columns)
    · rfl
  · obtain ⟨line, snapshot, intake, gain⟩ := State.closeRun_releases
      { s.sendPairs r r.pairs with engine := { s.engine with holdCount := 0 } } r
    exact ⟨line, snapshot, intake, gain⟩

end Sys2Proof.Machine
end

section
/-! The mapper's commands, step by step: frame set-up, standalone apply, lines, the sweep and notices (R83 to R103). -/

namespace Sys2Proof.Machine

open Sys2Proof.Safety

/-! ### When the mapper is free (R83, R91, R92) -/

theorem takesItems_of_free {s : State} (free : MapperFree s) : s.mapper.takesItems = true :=
  s.mapper.takesItems_iff.mpr ⟨free.line, free.waiting, free.notices⟩

/-- A waiting fill run is withdrawn and a waiting copy run stays (R97, R101). -/
theorem Mapper.withdrawFill_eq (m : Mapper) :
    m.withdrawFill = { m with waitingRun := match m.waitingRun with
      | some r => if r.isFill = true then none else some r
      | none => none } := by
  unfold Mapper.withdrawFill
  cases m.waitingRun with
  | none => rfl
  | some r => cases fill : r.isFill <;> simp [Option.filter, fill]

/-- A free mapper has nothing waiting once a fill run is withdrawn. -/
theorem withdrawFill_of_free {s : State} (free : MapperFree s) :
    s.mapper.withdrawFill = { s.mapper with waitingRun := none } := by
  rw [Mapper.withdrawFill_eq]
  cases waits : s.mapper.waitingRun with
  | none => rfl
  | some r => simp [free.waiting r waits]

/-- Where a sweep over these items starts: on the first row of the first (R85, R98). -/
def sweepStart (items : List FillItem) : Option Cursor :=
  match items with
  | [] => none
  | first :: _ => some ⟨0, first.row⟩

theorem Mapper.startSweep_eq (m : Mapper) (items : List FillItem) :
    m.startSweep items = { m with fillList := items, cursor := sweepStart items } := by
  cases items <;> rfl

/-! ### Frame set-up (R84 to R86) -/

/-- The condition under which a repaint is owed to zone requests alone (R85). -/
theorem Mapper.repaintList_eq (m : Mapper) (slot : Fin 8) :
    m.repaintList (decide (m.copySlot ≠ slot)) =
      if m.copySlot = slot ∧ m.repaintPending = false ∧ m.cursor = none then
        m.copy.fillList.filter fun item => m.zoneRequests.get item.driver
      else m.copy.fillList := by
  simp only [Mapper.repaintList, decide_eq_false_iff_not, not_not]

theorem Mapper.repaints_iff (m : Mapper) (slot : Fin 8) :
    m.repaints (decide (m.copySlot ≠ slot)) = true ↔
      m.copySlot ≠ slot ∨ m.repaintPending = true ∨ m.zoneRequests.any = true := by
  simp only [Mapper.repaints, Bool.or_eq_true, decide_eq_true_eq, or_assoc]

/-- The mapper of a set-up before the repaint decision: steps 1 to 5 (R84). -/
def State.setUpMapper (s : State) (number : Word16) (width height : Nat) : Mapper :=
  { s.copyLayout.mapper with
    frameInHand := some ⟨number, width, height, (s.gain.takeSnapshot s.posture.w).current⟩
    lastFrame := number, frameOpen := true, changeNotice := false }

/-- The part once a layout has been set up, but for its mapper: the snapshot and the zone modes (R84). -/
def State.setUpWith (s : State) (m : Mapper) : State :=
  { s.copyLayout with
    gain := s.gain.takeSnapshot s.posture.w, emission := s.emission.takeModes s.copyLayout.mapper.copy.modes
    mapper := m }

section

variable {s : State} {number : Word16} {width height : Nat} {slotChanged : Bool}

/-- A repaint frame (R85, R86). -/
theorem State.setUpFrame_repaint
    (changed : decide (s.copyLayout.mapper.copySlot ≠ s.mapper.copySlot) = slotChanged)
    (repaints : (s.setUpMapper number width height).repaints slotChanged = true) :
    s.setUpFrame number width height =
      State.offer (s.setUpWith ((s.setUpMapper number width height).repaint slotChanged))
        ((s.setUpMapper number width height).repaintRecord slotChanged
          ⟨number, width, height, (s.gain.takeSnapshot s.posture.w).current⟩) := by
  subst changed
  exact if_pos repaints

/-- A frame that repaints nothing (R85). -/
theorem State.setUpFrame_plain
    (changed : decide (s.copyLayout.mapper.copySlot ≠ s.mapper.copySlot) = slotChanged)
    (plain : (s.setUpMapper number width height).repaints slotChanged = false) :
    s.setUpFrame number width height = s.setUpWith (s.setUpMapper number width height) := by
  subst changed
  exact if_neg (Bool.eq_false_iff.mp plain)

end

/-- What a repaint makes of the mapper, with the fill list named (R85). -/
theorem Mapper.repaint_eq {m : Mapper} {slotChanged : Bool} {list : List FillItem}
    (listed : m.repaintList slotChanged = list) :
    m.repaint slotChanged = { m with
      fillList := list, cursor := sweepStart list
      repaintPending := false, zoneRequests := PerZone.same false } := by
  rw [Mapper.repaint, listed, Mapper.startSweep_eq]

/-- A free mapper takes a FRAME_START (R83, R84, R97). -/
theorem exec_frameSetUp {s : State} (free : MapperFree s) {number : Word16} {width height : Nat}
    {rest : List IntakeItem} (item : s.intake.queue = .frameStart number width height :: rest) :
    exec .frameSetUp s = .next (State.setUpFrame
      { s.takeItem rest with mapper := { s.mapper with waitingRun := none } } number width height) := by
  simp only [exec, execFrameSetUp, takesItems_of_free free, item, withdrawFill_of_free free]

/-- Settles O41: the steps of the set-up, with or without a repaint. -/
theorem frameSetUpEffect : Obligations.FrameSetUpEffect := by
  intro s number width height rest free item map slot copy other gain zones requested list set
  rw [exec_frameSetUp free item]
  generalize before : ({ s.takeItem rest with mapper := { s.mapper with waitingRun := none } } : State) = u
  have slotIs : u.copyLayout.mapper.copySlot = slot := by subst before; rfl
  have changed : decide (u.copyLayout.mapper.copySlot ≠ u.mapper.copySlot) = decide (slot ≠ s.mapper.copySlot) := by
    subst before; rfl
  have decision : (u.setUpMapper number width height).repaints (decide (slot ≠ s.mapper.copySlot)) = true ↔
      slot ≠ s.mapper.copySlot ∨ s.mapper.repaintPending = true ∨ requested = true := by
    subst before
    exact Mapper.repaints_iff (State.setUpMapper _ number width height) s.mapper.copySlot
  refine ⟨fun repaint => ?_, fun same pending unrequested => ?_⟩
  · have listed : (u.setUpMapper number width height).repaintList (decide (slot ≠ s.mapper.copySlot)) = list := by
      subst before
      exact Mapper.repaintList_eq (State.setUpMapper _ number width height) s.mapper.copySlot
    rw [State.setUpFrame_repaint changed (decision.mpr repaint), Mapper.repaint_eq listed]
    subst before
    rfl
  · have plain : ¬ (slot ≠ s.mapper.copySlot ∨ s.mapper.repaintPending = true ∨ requested = true) := by
      simp [same, pending, unrequested]
    rw [State.setUpFrame_plain changed (Bool.eq_false_iff.mpr fun h => plain (decision.mp h))]
    subst before
    rfl

/-! ### Standalone apply (R100, R101) -/

/-- The mapper of a standalone apply before it decides whether the layout changes: steps 1 to 3 (R100). -/
def State.applyMapper (s : State) : Mapper :=
  State.mapper (State.copyLayout { s with mapper := { s.mapper.withdrawFill with changeNotice := false } })

/-- The part after a standalone apply, but for its mapper (R100). -/
def State.appliedWith (s : State) (m : Mapper) : State :=
  State.offer
    { s.copyLayout with emission := s.emission.takeModes s.copyLayout.mapper.copy.modes, mapper := m }
    (.applied s.applyMapper.copySlot s.posture.posture s.mapper.lastFrame
      (decide (s.applyMapper.copySlot ≠ s.mapper.copySlot)) false true false)

section

variable {s : State}

/-- A standalone apply that changes the layout forms the fill list (R100). -/
theorem State.standaloneApply_changed
    (h : s.applyMapper.copySlot ≠ s.mapper.copySlot ∨ s.mapper.repaintPending = true) :
    s.standaloneApply = s.appliedWith { s.applyMapper with
      repaintPending := true, fillList := s.applyMapper.copy.fillList
      cursor := sweepStart s.applyMapper.copy.fillList } := by
  refine (congrArg s.appliedWith (if_pos (h.imp_left (decide_eq_true ·)))).trans ?_
  rw [Mapper.startSweep_eq]
  rfl

/-- A standalone apply that changes no layout leaves the sweep (R100). -/
theorem State.standaloneApply_same
    (h : ¬ (s.applyMapper.copySlot ≠ s.mapper.copySlot ∨ s.mapper.repaintPending = true)) :
    s.standaloneApply = s.appliedWith s.applyMapper :=
  congrArg s.appliedWith (if_neg fun h' => h (h'.imp_left of_decide_eq_true))

end

/-- Settles O46: the layout changes or it does not; the rest is the same. -/
theorem standaloneApplyEffect : Obligations.StandaloneApplyEffect := by
  intro s map slot copy zones applied
  have mapper : s.applyMapper = State.mapper (State.copyLayout { s with mapper := { s.mapper with
      waitingRun := match s.mapper.waitingRun with
        | some r => if r.isFill = true then none else some r
        | none => none
      changeNotice := false } }) := by
    rw [State.applyMapper, Mapper.withdrawFill_eq]
  have slotIs : s.applyMapper.copySlot = slot := rfl
  refine ⟨fun changed => ?_, fun same pending => ?_⟩
  · rw [State.standaloneApply_changed changed, mapper]
    rfl
  · rw [State.standaloneApply_same (by simp [slotIs, same, pending]), mapper]
    rfl

end Sys2Proof.Machine
end

section
/-! Lines, the fill sweep and the fill list, item by item and row by row (R88 to R97). -/

namespace Sys2Proof.Machine

open Sys2Proof.Safety

/-! ### Copy runs (R88, R89) -/

section

variable {modes : PerZone ZoneMode} {f : FrameInHand} {slot : Fin 32} {row : Nat} {dst : Rect}

/-- A COPY entry gives a run from a line when its zone is LIVE and the row is one of its source rows (R88, R89). -/
theorem copyRun_of_copy {z : Zone} (zone : dst.zone? = some z) (srcCol srcRow : Nat) (mirror : Bool) :
    copyRun modes f slot row ⟨dst, .copy srcCol srcRow mirror⟩ =
      if modes.get z = .live ∧ srcRow ≤ row ∧ row < srcRow + dst.height then
        some ⟨z, dst.row + (row - srcRow), dst.col - z.firstCol, dst.width,
          .copy slot srcCol mirror f.width (if z = .spine then some f.snapshot else none), 0⟩
      else none := by
  simp only [copyRun, zone]

/-- A FILL entry is passed over (R88). -/
theorem copyRun_of_fill (colour : Pixel) : copyRun modes f slot row ⟨dst, .fill colour⟩ = none := by
  simp only [copyRun]

end

/-- A rectangle that holds pixels and lies inside a zone is found in it (R2). -/
theorem Rect.zone?_of_liesIn {r : Rect} {z : Zone} (lies : LiesIn r z) (width : 0 < r.width) : r.zone? = some z :=
  (Rect.zone?_eq_some_iff z (Rect.inRaster_of_liesIn lies) width).mpr lies

/-! ### Fill runs (R95, R96) -/

theorem snapshot?_of_isFill {r : Run} (isFill : r.isFill = true) : r.source.snapshot? = none := by
  unfold Run.isFill at isFill
  split at isFill
  · next source =>
    rw [source]
    rfl
  · cases isFill

/-- A fill run takes no references (R95, R113). -/
theorem State.placeRun_of_isFill (s : State) {r : Run} (isFill : r.isFill = true) :
    s.placeRun r = { s with engine := { s.engine with
      queues := s.engine.queues.set r.driver (s.engine.queues.get r.driver ++ [r]) } } := by
  simp only [State.placeRun, State.changeRunRefs, lineSlot?_of_isFill isFill, snapshot?_of_isFill isFill]

/-- The cursor after its run is placed: the next row, the next item, or IDLE (R96). -/
def cursorAfter (items : List FillItem) (item : FillItem) (c : Cursor) : Option Cursor :=
  if c.row + 1 < item.row + item.height then some ⟨c.item, c.row + 1⟩
  else match items[c.item + 1]? with
    | some later => some ⟨c.item + 1, later.row⟩
    | none => none

theorem nextCursor_eq {items : List FillItem} {c : Cursor} {item : FillItem} (there : items[c.item]? = some item) :
    nextCursor items c = cursorAfter items item c := by
  simp only [nextCursor, cursorAfter, there]
  cases items[c.item + 1]? <;> rfl

/-- The fill run at the cursor is placed, and the cursor advances (R96). -/
theorem State.placeFill_eq {s : State} {r : Run} (isFill : r.isFill = true) {c : Cursor} {item : FillItem}
    (cursor : s.mapper.cursor = some c) (there : s.mapper.fillList[c.item]? = some item) :
    s.placeFill r = { s with
      engine := { s.engine with queues := s.engine.queues.set r.driver (s.engine.queues.get r.driver ++ [r]) }
      mapper := { s.mapper with cursor := cursorAfter s.mapper.fillList item c } } := by
  simp only [State.placeFill, s.placeRun_of_isFill isFill, cursor, Option.bind_some, nextCursor_eq there]

/-! ### The waiting run (R91, R96) -/

section

variable {s : State} {r : Run} (waits : s.mapper.waitingRun = some r)

include waits

theorem exec_waitingRunPlaced_fill (room : s.engine.hasRoom r.driver = true) (isFill : r.isFill = true) :
    exec .waitingRunPlaced s =
      .next (State.placeFill { s with mapper := { s.mapper with waitingRun := none } } r) := by
  simp only [exec, execWaitingRunPlaced, waits, room, isFill, if_true]

theorem exec_waitingRunPlaced_copy (room : s.engine.hasRoom r.driver = true) (isCopy : r.isFill = false)
    {l : LineInHand} {f : FrameInHand} (line : s.mapper.lineInHand = some l) (inHand : s.mapper.frameInHand = some f) :
    exec .waitingRunPlaced s = .next (State.examineLine
      (State.placeRun { s with mapper := { s.mapper with waitingRun := none } } r) f l) := by
  simp only [exec, execWaitingRunPlaced, waits, room, isCopy, line, inHand, if_true, Bool.false_eq_true, if_false]

theorem exec_waitingRunPlaced_full (full : s.engine.hasRoom r.driver = false) :
    exec .waitingRunPlaced s = .next s := by
  simp only [exec, execWaitingRunPlaced, waits, full, Bool.false_eq_true, if_false]

end

/-- Settles O42: the item taken, the run that an entry gives, and the three ways of the waiting run. -/
theorem lineItemEffect : Obligations.LineItemEffect := by
  refine ⟨fun s slot row rest f free item inHand => ?taken,
    fun modes f slot row srcCol srcRow mirror dst z lies width => ?gives, fun s r l f waits isCopy room line inHand => ?goesOn, fun s noRoom => ?stays,
    fun s r c item waits isFill room cursor there => ?fill⟩
  case taken =>
    simp only [exec, execLineItem, takesItems_of_free free, item, inHand]
    rfl
  case gives =>
    have zone := Rect.zone?_of_liesIn lies width
    refine ⟨fun live least inside => ?_, fun passed => ?_, copyRun_of_fill⟩
    · rw [copyRun_of_copy zone, if_pos ⟨live, least, inside⟩]
    · rw [copyRun_of_copy zone, if_neg]
      rintro ⟨live, least, inside⟩
      rcases passed with other | above | below
      · exact other live
      · omega
      · omega
  case goesOn => exact exec_waitingRunPlaced_copy waits ((s.engine.hasRoom_iff _).mpr room) isCopy line inHand
  case stays =>
    cases waits : s.mapper.waitingRun with
    | none => simp only [exec, execWaitingRunPlaced, waits]
    | some r =>
      refine exec_waitingRunPlaced_full waits (Bool.eq_false_iff.mpr fun room => ?_)
      have full := noRoom r waits
      have := (s.engine.hasRoom_iff _).mp room
      omega
  case fill =>
    rw [exec_waitingRunPlaced_fill waits ((s.engine.hasRoom_iff _).mpr room) isFill,
      State.placeFill_eq (s := { s with mapper := { s.mapper with waitingRun := none } }) isFill cursor there]
    rfl

/-! ### The sweep (R95 to R97) -/

theorem Intake.frameStartAtHead_iff (i : Intake) :
    i.frameStartAtHead = true ↔ ∃ n w h rest, i.queue = .frameStart n w h :: rest := by
  unfold Intake.frameStartAtHead
  split
  · next queue => simp [queue]
  · next other => exact iff_of_false Bool.false_ne_true fun ⟨n, w, h, rest, queue⟩ => other n w h rest queue

/-- When the sweep runs (R96, R97). -/
theorem State.sweepRuns_iff (s : State) :
    s.sweepRuns = true ↔ s.mapper.frameOpen = false ∧ s.mapper.lineInHand = none ∧ s.mapper.waitingRun = none
      ∧ ∀ n w h rest, s.intake.queue ≠ .frameStart n w h :: rest := by
  have head := not_congr s.intake.frameStartAtHead_iff
  simp only [not_exists, Bool.not_eq_true] at head
  simp only [State.sweepRuns, Bool.and_eq_true, Bool.not_eq_true', Option.isNone_iff_eq_none, head, and_assoc, ne_eq]

section

variable {s : State}

/-- The sweep that runs places its run or lets it wait (R95, R96). -/
theorem exec_fillSweepRun (runs : s.sweepRuns = true) {c : Cursor} (cursor : s.mapper.cursor = some c)
    {item : FillItem} (there : s.mapper.fillList[c.item]? = some item) :
    exec .fillSweepRun s =
      if s.engine.hasRoom item.driver = true then .next (s.placeFill (item.run c.row))
      else .next { s with mapper := { s.mapper with waitingRun := some (item.run c.row) } } := by
  simp only [exec, execFillSweepRun, runs, cursor, there]
  rfl

/-- A sweep that does not run places nothing (R96, R97, log 2). -/
theorem exec_fillSweepRun_still (still : s.sweepRuns = false ∨ s.mapper.cursor = none) :
    exec .fillSweepRun s = .next s := by
  simp only [exec, execFillSweepRun]
  split
  · next runs cursor =>
    rcases still with still | still
    · rw [still] at runs
      cases runs
    · rw [still] at cursor
      cases cursor
  · rfl

end

/-! ### The fill list (R94) -/

/-- The black fills of the dark zones, zone by zone (R94). -/
theorem darkFills_eq (modes : PerZone ZoneMode) :
    (allZones.filter fun z => decide (modes.get z = .dark)).map darkFill =
      (if modes.front = .dark then [⟨.front, 0, 0, 864, 2400, Pixel.black⟩] else [])
        ++ (if modes.spine = .dark then [⟨.spine, 0, 0, 72, 2400, Pixel.black⟩] else [])
        ++ (if modes.back = .dark then [⟨.back, 0, 0, 864, 2400, Pixel.black⟩] else []) := by
  obtain ⟨front, spine, back⟩ := modes
  cases front <;> cases spine <;> cases back <;> rfl

/-- The entry is a FILL entry. -/
def Entry.isFill (e : Entry) : Bool :=
  match e.body with
  | .fill _ => true
  | .copy _ _ _ => false

/-- The item is the FILL entry's rectangle in the zone it lies inside, with the entry's colour (R94). -/
def ItemOf (item : FillItem) (e : Entry) : Prop :=
  e.body = .fill item.colour ∧ LiesIn e.dst item.driver ∧ item.firstCol = e.dst.col - item.driver.firstCol
    ∧ item.row = e.dst.row ∧ item.width = e.dst.width ∧ item.height = e.dst.height

/-- A FILL entry inside a zone gives its item, and a COPY entry none (R94). -/
theorem Entry.fillItem?_cases {e : Entry} {z : Zone} (lies : LiesIn e.dst z) (width : 0 < e.dst.width) :
    (e.isFill = true ∧ ∃ item, e.fillItem? = some item ∧ ItemOf item e)
      ∨ (e.isFill = false ∧ e.fillItem? = none) := by
  have zone := Rect.zone?_of_liesIn lies width
  unfold Entry.isFill Entry.fillItem?
  cases body : e.body with
  | fill colour =>
    rw [zone]
    exact .inl ⟨rfl, _, rfl, body, lies, rfl, rfl, rfl, rfl⟩
  | copy srcCol srcRow mirror => exact .inr ⟨rfl, rfl⟩

/-- The items of a list's FILL entries stand in list order (R94). -/
theorem forall₂_fillItems {es : List Entry} (inside : ∀ e ∈ es, (∃ z, LiesIn e.dst z) ∧ 0 < e.dst.width) :
    List.Forall₂ ItemOf (es.filterMap Entry.fillItem?) (es.filter Entry.isFill) := by
  induction es with
  | nil => exact .nil
  | cons e es ih =>
    obtain ⟨⟨z, lies⟩, width⟩ := inside e (.head _)
    have later := ih fun e' he' => inside e' (.tail _ he')
    obtain ⟨isFill, item, gives, itemOf⟩ | ⟨isCopy, gives⟩ := Entry.fillItem?_cases lies width
    · rw [List.filterMap_cons_some gives, List.filter_cons_of_pos isFill]
      exact .cons itemOf later
    · rw [List.filterMap_cons_none gives, List.filter_cons_of_neg (by simp [isCopy])]
      exact later

/-- Settles O44: the FRAME_END, the sweep that runs and that does not, and the list by its two parts. -/
theorem frameEndAndFillSweep : Obligations.FrameEndAndFillSweep := by
  refine ⟨fun s rest free item => ?ended, fun s c item closed noLine noRun noStart cursor there => ?runs,
    fun s still => ?still, fun l law widths => ?list⟩
  case ended =>
    simp only [exec, execFrameEnd, takesItems_of_free free, item]
    rfl
  case runs =>
    intro r queue
    have effect := exec_fillSweepRun ((s.sweepRuns_iff).mpr ⟨closed, noLine, noRun, noStart⟩) cursor there
    refine ⟨fun room => ?_, fun full => ?_⟩
    · rw [effect, if_pos ((s.engine.hasRoom_iff _).mpr room), State.placeFill_eq rfl cursor there]
      rfl
    · exact effect.trans (if_neg fun room => Nat.not_lt.mpr full ((s.engine.hasRoom_iff _).mp room))
  case still =>
    refine exec_fillSweepRun_still ?_
    by_cases idle : s.mapper.cursor = none
    · exact .inr idle
    · refine .inl (Bool.eq_false_iff.mpr fun runs => ?_)
      obtain ⟨closed, noLine, noRun, noStart⟩ := s.sweepRuns_iff.mp runs
      rcases still with opened | line | waits | idle' | ⟨n, w, h, rest, start⟩
      · rw [closed] at opened
        cases opened
      · exact line noLine
      · exact waits noRun
      · exact idle idle'
      · exact noStart n w h rest start
  case list =>
    refine ⟨l.entries.filterMap Entry.fillItem?, ?_, ?_⟩
    · rw [Layout.fillList, darkFills_eq]
    · refine forall₂_fillItems fun e he => ⟨?_, widths e he⟩
      obtain ⟨z, lies, -⟩ := law.inside e he
      exact ⟨z, lies⟩

end Sys2Proof.Machine
end

section
/-! What the mapper does with the oldest notice, and when it takes none and no item (R83, R99, R102, R103). -/

namespace Sys2Proof.Machine

open Sys2Proof.Safety

/-! ### The oldest notice (R83) -/

theorem notice?_of_due {s : State} {n : Notice} {rest : List Notice} (due : NoticeDue s n rest) :
    s.mapper.notice? = some (n, { s.mapper with notices := rest }) := by
  simp only [Mapper.notice?, due.line, due.oldest]

/-- What the mapper acts on is the oldest notice, with no line in hand (R83). -/
theorem noticeDue_of_notice? {s : State} {n : Notice} {m : Mapper} (h : s.mapper.notice? = some (n, m)) :
    ∃ rest, NoticeDue s n rest := by
  unfold Mapper.notice? at h
  split at h
  · next line oldest =>
    cases h
    exact ⟨_, line, oldest⟩
  · cases h

/-- In LIVE a posture or MAP_SET notice is noted (R99). -/
theorem State.layoutNotice_live {s : State} (live : s.mapper.guardHeld = .live) :
    s.layoutNotice = { s with mapper := { s.mapper with changeNotice := true } } := by
  simp only [State.layoutNotice, live]

/-- In HOLD and BLANK it is applied at once (R99). -/
theorem State.layoutNotice_applied {s : State} (other : s.mapper.guardHeld ≠ .live) :
    s.layoutNotice = s.standaloneApply := by
  unfold State.layoutNotice
  split
  · next live => exact absurd live other
  · rfl
  · rfl

/-- What a guard notice leaves, before a standalone apply it may lead to (R102, R159). -/
def State.guardHeldAs (s : State) (new : GuardState) : State :=
  { s with mapper := { s.mapper with
    guardHeld := new
    repaintPending := s.mapper.repaintPending || (s.mapper.guardHeld = .blank && new ≠ .blank) } }

theorem State.guardNotice_eq (s : State) (new : GuardState) :
    s.guardNotice new =
      if s.mapper.guardHeld = .live ∧ new = .hold ∧ s.mapper.changeNotice = true then
        (s.guardHeldAs new).standaloneApply
      else s.guardHeldAs new := by
  simp only [State.guardNotice, State.guardHeldAs, Bool.decide_and]

/-! ### When nothing is taken (R83, R91, R92, log 2) -/

/-- A notice row that is not the oldest notice's changes nothing (R83). -/
theorem exec_notice_notDue {s : State} {c : Instr} (row : c ∈ noticeCommands)
    (notDue : ∀ n rest, NoticeDue s n rest → noticeCommand n ≠ c) : exec c s = .next s := by
  have other : ∀ {n m}, s.mapper.notice? = some (n, m) → noticeCommand n ≠ c := fun h => by
    obtain ⟨rest, due⟩ := noticeDue_of_notice? h
    exact notDue _ rest due
  simp only [noticeCommands, List.mem_cons, List.not_mem_nil, or_false] at row
  obtain rfl | rfl | rfl | rfl := row
  · simp only [exec, execPostureNotice]
    split
    · next due => exact absurd rfl (other due)
    · rfl
  · simp only [exec, execMapSetNotice]
    split
    · next due => exact absurd rfl (other due)
    · rfl
  · simp only [exec, execGuardStateNotice]
    split
    · next due => exact absurd rfl (other due)
    · rfl
  · simp only [exec, execDropNotice]
    split
    · next due => exact absurd rfl (other due)
    · rfl

/-- An item row that is not the head item's, or with the mapper not free, changes nothing (R83, R91, R92). -/
theorem exec_item_notDue {s : State} {c : Instr} (row : c ∈ itemCommands)
    (notDue : MapperFree s → ∀ item later, s.intake.queue = item :: later → itemCommand item ≠ c) :
    exec c s = .next s := by
  have other : ∀ {item later}, s.mapper.takesItems = true → s.intake.queue = item :: later → itemCommand item ≠ c :=
    fun takes head => by
      obtain ⟨line, waiting, notices⟩ := s.mapper.takesItems_iff.mp takes
      exact notDue ⟨line, waiting, notices⟩ _ _ head
  simp only [itemCommands, List.mem_cons, List.not_mem_nil, or_false] at row
  obtain rfl | rfl | rfl := row
  · simp only [exec, execFrameSetUp]
    split
    · next takes head => exact absurd rfl (other takes head)
    · rfl
  · simp only [exec, execLineItem]
    split
    · next takes head _ => exact absurd rfl (other takes head)
    · rfl
  · simp only [exec, execFrameEnd]
    split
    · next takes head => exact absurd rfl (other takes head)
    · rfl

/-- Settles O45: each kind of notice by the guard state held, and the rows whose occasion has not come. -/
theorem noticesEffect : Obligations.NoticesEffect := by
  intro s rest acted
  refine ⟨fun n c row due => ?layout, fun new due => ?guard, fun z due => ?drop, fun c row stopped => ?noNotice,
    fun c row stopped => ?noItem⟩
  case layout =>
    have taken : exec c s = .next (State.layoutNotice (acted s.mapper)) := by
      rcases row with ⟨rfl, rfl⟩ | ⟨rfl, rfl⟩
      · simp only [exec, execPostureNotice, notice?_of_due due, acted]
      · simp only [exec, execMapSetNotice, notice?_of_due due, acted]
    refine ⟨fun live => ?_, fun other => ?_⟩
    · exact taken.trans (congrArg _ (State.layoutNotice_live (s := acted s.mapper) live))
    · exact taken.trans (congrArg _ (State.layoutNotice_applied (s := acted s.mapper) other))
  case guard =>
    have taken : exec .guardStateNotice s = .next (State.guardNotice (acted s.mapper) new) := by
      simp only [exec, execGuardStateNotice, notice?_of_due due, acted]
    rw [State.guardNotice_eq] at taken
    refine ⟨fun live hold noted => ?_, fun plain => ?_⟩
    · exact taken.trans (congrArg _ (if_pos ⟨live, hold, noted⟩))
    · refine taken.trans (congrArg _ (if_neg ?_))
      rintro ⟨live, hold, noted⟩
      rcases plain with other | other | other
      · exact other live
      · exact other hold
      · exact Bool.false_ne_true (other.symm.trans noted)
  case drop => simp only [exec, execDropNotice, notice?_of_due due, acted]
  case noNotice =>
    refine exec_notice_notDue row fun n later due => ?_
    rcases stopped with line | other
    · exact absurd due.line line
    · exact other n later due.oldest
  case noItem =>
    refine exec_item_notDue row fun free => ?_
    rcases stopped with notFree | other
    · exact absurd free notFree
    · exact other

end Sys2Proof.Machine
end

section
/-! The blended gain (R111), and the commands that load tables: GAIN_LOAD, GAIN_POINTS and PROFILE_SET (R108, R110,
R125). -/

namespace Sys2Proof.Machine

open Sys2Proof.Safety

/-! ### The blended gain (R111) -/

theorem blendGain_zero (flat fold : Nat) : blendGain flat fold 0 = flat := by
  simp [blendGain]

theorem blendGain_full (flat fold : Nat) : blendGain flat fold 256 = fold := by
  unfold blendGain
  omega

theorem blendGain_same (gain w : Nat) : blendGain gain gain w = gain := by
  simp [blendGain]

/-- The sum before its cut to a natural number moves with `w` as the product does. -/
theorem blendGain_le_blendGain {flat fold w w' : Nat} (h : ((fold : Int) - flat) * w ≤ ((fold : Int) - flat) * w') :
    blendGain flat fold w ≤ blendGain flat fold w' :=
  Int.toNat_le_toNat (add_le_add_right (Int.ediv_le_ediv (by decide) (add_le_add_left h 128)) _)

theorem blendGain_mono {flat fold w w' : Nat} (up : flat ≤ fold) (h : w ≤ w') :
    blendGain flat fold w ≤ blendGain flat fold w' :=
  blendGain_le_blendGain (mul_le_mul_of_nonneg_left (Int.ofNat_le.mpr h) (sub_nonneg.mpr (Int.ofNat_le.mpr up)))

theorem blendGain_anti {flat fold w w' : Nat} (down : fold ≤ flat) (h : w ≤ w') :
    blendGain flat fold w' ≤ blendGain flat fold w :=
  blendGain_le_blendGain (mul_le_mul_of_nonpos_left (Int.ofNat_le.mpr h) (sub_nonpos.mpr (Int.ofNat_le.mpr down)))

/-- A blended gain lies between the two it blends: `w` lies between 0, where it is the one, and 256, where it is the
other. -/
theorem blendGain_between (flat fold : Nat) {w : Nat} (hw : w ≤ 256) :
    min flat fold ≤ blendGain flat fold w ∧ blendGain flat fold w ≤ max flat fold := by
  have zero := blendGain_zero flat fold
  have full := blendGain_full flat fold
  rcases Nat.le_total flat fold with up | down
  · have low := blendGain_mono up (Nat.zero_le w)
    have high := blendGain_mono up hw
    omega
  · have high := blendGain_anti down (Nat.zero_le w)
    have low := blendGain_anti down hw
    omega

/-- The sum is not negative up to `w = 256`, so the cut to a natural number loses nothing. -/
theorem blendGain_eq (flat fold : Nat) {w : Nat} (hw : w ≤ 256) :
    (blendGain flat fold w : Int) = (flat : Int) + (((fold : Int) - flat) * w + 128) / 256 := by
  have product : -(flat : Int) * 256 ≤ ((fold : Int) - flat) * w :=
    calc -(flat : Int) * 256 ≤ -(flat : Int) * w := mul_le_mul_of_nonpos_left (by omega) (by omega)
      _ ≤ ((fold : Int) - flat) * w := mul_le_mul_of_nonneg_right (by omega) (by omega)
  exact Int.toNat_of_nonneg (by omega)

/-- Settles O47: the sum moves with `w`, from the FLAT value at 0 to the FOLD value at 256. -/
theorem blendedGain : Obligations.BlendedGain := fun flat fold _ hw =>
  ⟨blendGain_eq flat fold hw, blendGain_zero flat fold, blendGain_full flat fold, (blendGain_between flat fold hw).1,
    (blendGain_between flat fold hw).2, fun up _ => blendGain_mono up, fun down _ => blendGain_anti down,
    blendGain_same flat _⟩

/-! ### Two-byte values in a list (R172) -/

theorem be16s_wordBytes {values : List Nat} (h : ∀ v ∈ values, v < 65536) :
    be16s (values.flatMap wordBytes) = values := by
  induction values with
  | nil => rfl
  | cons v values ih =>
    obtain ⟨hv, hvalues⟩ := List.forall_mem_cons.mp h
    exact congrArg₂ List.cons (be16_wordBytes hv) (ih hvalues)

theorem length_flatMap_wordBytes (values : List Nat) : (values.flatMap wordBytes).length = 2 * values.length := by
  induction values with
  | nil => rfl
  | cons v values ih =>
    rw [List.flatMap_cons, List.length_append, ih, List.length_cons]
    exact Nat.add_comm 2 _

/-! ### GAIN_LOAD (R108) -/

/-- The tests of GAIN_LOAD after the table code (R108). -/
def GainsRefused (first count : Byte) (values : List Nat) : Prop :=
  71 < first.toNat ∨ count.toNat < 1 ∨ 24 < count.toNat ∨ 72 < first.toNat + count.toNat ∨ ∃ v ∈ values, 4095 < v

theorem GainTable.ofCode?_eq_none {n : Nat} (h : 1 < n) : GainTable.ofCode? n = none := by
  match n, h with
  | n + 2, _ => rfl

theorem GainTable.exists_ofCode? {n : Nat} (h : n ≤ 1) : ∃ table, GainTable.ofCode? n = some table := by
  match n, h with
  | 0, _ => exact ⟨_, rfl⟩
  | 1, _ => exact ⟨_, rfl⟩

/-- A table that agrees with the values at their columns, and with the old table elsewhere, is the table written. -/
theorem writeGains_eq {table new : Vector Nat 72} {first : Nat} {values : List Nat}
    (h : ∀ c : Fin 72, new[c] = if first ≤ c.val ∧ c.val < first + values.length then values.getD (c.val - first) 0
      else table[c]) : writeGains table first values = new := by
  refine Vector.ext fun c hc => ?_
  have new_at := h ⟨c, hc⟩
  simp only [Fin.getElem_fin] at new_at
  rw [writeGains, Vector.getElem_ofFn, new_at]
  dsimp only [Fin.getElem_fin]
  split
  · next inside =>
    have hin : c - first < values.length := by omega
    rw [List.getD_eq_getElem _ _ hin, List.getD_eq_getElem _ _ hin]
  · rfl

section

variable {s : State} {table first count : Byte} {values : List Nat}

theorem gainLoadFits_wordBytes (length : values.length = count.toNat) :
    gainLoadFits (table :: first :: count :: values.flatMap wordBytes) = true :=
  decide_eq_true ((length_flatMap_wordBytes values).trans (congrArg (2 * ·) length))

theorem gainLoadAction_badTable (bad : 1 < table.toNat) (bytes : List Byte) :
    gainLoadAction (table :: first :: count :: bytes) s = .refuse .range s := by
  simp only [gainLoadAction, GainTable.ofCode?_eq_none bad]

theorem gainLoadAction_refused {t : GainTable} (code : GainTable.ofCode? table.toNat = some t)
    (words : ∀ v ∈ values, v < 65536) (refused : GainsRefused first count values) :
    gainLoadAction (table :: first :: count :: values.flatMap wordBytes) s = .refuse .range s := by
  simp only [gainLoadAction, code, be16s_wordBytes words]
  exact if_pos (by simpa [GainsRefused] using refused)

theorem gainLoadAction_stored {t : GainTable} (code : GainTable.ofCode? table.toNat = some t)
    (words : ∀ v ∈ values, v < 65536) (passed : ¬ GainsRefused first count values) {flat fold : Vector Nat 72}
    (hflat : (if t = .flat then writeGains s.gain.flat first.toNat values else s.gain.flat) = flat)
    (hfold : (if t = .fold then writeGains s.gain.fold first.toNat values else s.gain.fold) = fold) :
    gainLoadAction (table :: first :: count :: values.flatMap wordBytes) s =
      .done [] { s with gain := { s.gain with flat := flat, fold := fold } } := by
  subst hflat hfold
  simp only [gainLoadAction, code, be16s_wordBytes words]
  refine (if_neg (by simpa [GainsRefused] using passed)).trans ?_
  cases t <;> rfl

end

/-! ### GAIN_POINTS (R110) -/

section

variable {a1 a0 b1 b0 : Byte}

theorem gainPointsAction_passed (order : be16 a1 a0 < be16 b1 b0) (top : be16 b1 b0 ≤ 2048) (s : State) :
    gainPointsAction [a1, a0, b1, b0] s =
      .done [] { s with gain := { s.gain with foldPt := be16 a1 a0, flatPt := be16 b1 b0 } } :=
  if_pos ((pointsInRange_iff ..).mpr ⟨order.le.trans top, top, order⟩)

theorem gainPointsAction_failed (fails : be16 b1 b0 ≤ be16 a1 a0 ∨ 2048 < be16 b1 b0) (s : State) :
    gainPointsAction [a1, a0, b1, b0] s = .refuse .range s :=
  if_neg fun passes => by
    obtain ⟨-, top, order⟩ := (pointsInRange_iff ..).mp passes
    omega

end

/-! ### PROFILE_SET (R125) -/

theorem Zone.ofCode?_code (z : Zone) : Zone.ofCode? z.code = some z := by
  cases z <;> rfl

theorem Zone.ofCode?_eq_none {n : Nat} (h : 3 ≤ n) : Zone.ofCode? n = none := by
  match n, h with
  | n + 3, _ => rfl

/-- The ranges of a profile (R125). -/
def ProfilePasses (c w t : Byte) : Prop := 1 ≤ c.toNat ∧ c.toNat ≤ 3 ∧ w.toNat ≤ 3 ∧ t.toNat ≤ 3

theorem parseProfile_passed {c w t : Byte} (passes : ProfilePasses c w t) :
    parseProfile c w t = some ⟨c.toNat, w.toNat, t.toNat⟩ := if_pos passes

theorem parseProfile_failed {c w t : Byte} (fails : ¬ ProfilePasses c w t) : parseProfile c w t = none := if_neg fails

theorem profileSetAction_stored {code c w t : Byte} {d : Driver} (hcode : d.code = code.toNat)
    (passes : ProfilePasses c w t) (s : State) :
    profileSetAction [code, c, w, t] s = .done [] (s.storeProfile d ⟨c.toNat, w.toNat, t.toNat⟩) := by
  simp only [profileSetAction, ← hcode, Zone.ofCode?_code, parseProfile_passed passes]

theorem profileSetAction_refused {code c w t : Byte} (refused : 3 ≤ code.toNat ∨ ¬ ProfilePasses c w t) (s : State) :
    profileSetAction [code, c, w, t] s = .refuse .range s := by
  rcases refused with h | h
  · simp only [profileSetAction, Zone.ofCode?_eq_none h]
  · simp only [profileSetAction, parseProfile_failed h]
    cases Zone.ofCode? code.toNat <;> rfl

/-- Settles O48: command by command, by whether the tests of its owning block pass. -/
theorem tableCommands : Obligations.TableCommands := by
  refine ⟨?load, ?points, ?profile⟩
  case load =>
    intro s p rest table first count values words length asked idle
    have done : ∀ {t status}, gainLoadAction (table :: first :: count :: values.flatMap wordBytes) s = ⟨status, [], t⟩ →
        t.control = s.control → exec .gainLoad s = .next (answered t p rest status []) := fun reply queue =>
      congrArg Host.Outcome.next (carryOut_of_asks asked (gainLoadFits_wordBytes length) (.inl idle) reply queue)
    refine ⟨fun refused => ?_, fun table1 count1 count24 columns range flat fold hflat hfold => ?_⟩
    · rcases Nat.lt_or_ge 1 table.toNat with bad | good
      · exact done (gainLoadAction_badTable bad _) rfl
      · obtain ⟨t, code⟩ := GainTable.exists_ofCode? good
        exact done (gainLoadAction_refused code words (refused.resolve_left (Nat.not_lt.mpr good))) rfl
    · have passed : ¬ GainsRefused first count values := by
        rintro (h | h | h | h | ⟨v, hv, h⟩)
        · omega
        · omega
        · omega
        · omega
        · exact absurd (range v hv) (Nat.not_le.mpr h)
      rw [← length] at hflat hfold
      have isTable : table = 0 ∨ table = 1 := by bv_omega
      rcases isTable with rfl | rfl
      · have writes : writeGains s.gain.flat first.toNat values = flat := writeGains_eq (by simpa using hflat)
        have stays : s.gain.fold = fold := Vector.ext fun c hc => by simpa using (hfold ⟨c, hc⟩).symm
        exact done (gainLoadAction_stored (t := .flat) rfl words passed writes stays) rfl
      · have stays : s.gain.flat = flat := Vector.ext fun c hc => by simpa using (hflat ⟨c, hc⟩).symm
        have writes : writeGains s.gain.fold first.toNat values = fold := writeGains_eq (by simpa using hfold)
        exact done (gainLoadAction_stored (t := .fold) rfl words passed stays writes) rfl
  case points =>
    intro s p rest a1 a0 b1 b0 asked idle foldPt flatPt
    refine ⟨fun order top => ?_, fun refused => ?_⟩
    · exact congrArg Host.Outcome.next
        (carryOut_of_asks asked rfl (.inl idle) (gainPointsAction_passed order top s) rfl)
    · exact congrArg Host.Outcome.next
        (carryOut_of_asks_refused asked rfl (.inl idle) (gainPointsAction_failed refused s))
  case profile =>
    intro s p rest code c w t asked idle
    refine ⟨fun d hcode c1 c3 w3 t3 => ?_, fun refused => ?_⟩
    · exact congrArg Host.Outcome.next
        (carryOut_of_asks asked rfl (.inl idle) (profileSetAction_stored hcode ⟨c1, c3, w3, t3⟩ s) rfl)
    · have refuses : 3 ≤ code.toNat ∨ ¬ ProfilePasses c w t := by
        refine refused.imp_right fun outside passes => ?_
        obtain ⟨c1, c3, w3, t3⟩ := passes
        bv_omega
      exact congrArg Host.Outcome.next
        (carryOut_of_asks_refused asked rfl (.inl idle) (profileSetAction_refused refuses s))

end Sys2Proof.Machine
end

section
/-! What the sections ANGLE, GAIN, EMIT, GUARD, PROFILE and MAP of the start-up image store (R117, R152, R161, R182,
R184). -/

namespace Sys2Proof.Machine

open Sys2Proof.Safety

/-! ### The length of a section (R182) -/

section

variable {kind : Byte} {body : List Byte} (s : State)

theorem State.applySection_misfit (h : sectionFits kind body ≠ some true) : s.applySection kind body = (false, s) :=
  if_neg h

theorem State.applySection_wrongLength {n : Nat} (fits : sectionFits kind body = some (decide (body.length = n)))
    (wrong : body.length ≠ n) : s.applySection kind body = (false, s) :=
  s.applySection_misfit (by rw [fits, decide_eq_false wrong]; exact fun h => Bool.false_ne_true (Option.some.inj h))

theorem sectionFits_layout (wrong : ∀ count, body[4]? = some count → body.length ≠ 5 + 20 * count.toNat) :
    sectionFits 6 body ≠ some true := by
  cases fifth : body[4]? with
  | none => simp [sectionFits, fifth]
  | some count => simpa [sectionFits, fifth] using wrong count fifth

end

/-! ### ANGLE (R182) -/

/-- A signed value by its unsigned one (R172). -/
theorem signed16_eq_be16 (hi lo : Byte) :
    signed16 hi lo = if be16 hi lo < 32768 then (be16 hi lo : Int) else (be16 hi lo : Int) - 65536 := by
  rw [signed16_eq, be16]
  split_ifs <;> omega

section

variable {rate k ce1 ce0 cx1 cx0 ox1 ox0 oe1 oe0 dwell address register hi lo : Byte} (s : State)

theorem State.applyAngle_passed (passes : AnglePasses rate ce1 ce0 cx1 cx0 ox1 ox0 oe1 oe0 address)
    (range : -2048 ≤ signed16 hi lo ∧ signed16 hi lo ≤ 2047) :
    s.applyAngle [rate, k, ce1, ce0, cx1, cx0, ox1, ox0, oe1, oe0, dwell, address, register, hi, lo] =
      some { s with posture :=
        { s.posture.configure (storedAngles rate k ce1 ce0 cx1 cx0 ox1 ox0 oe1 oe0 dwell address register) with
          offset := signed16 hi lo } } := by
  simp only [State.applyAngle, List.take, List.drop, parseAngleConfig_passed _ k _ _ _ _ _ _ _ _ dwell _ register passes,
    parseOffset, if_pos range, Option.map]

theorem State.applyAngle_failed (fails : ¬ (AnglePasses rate ce1 ce0 cx1 cx0 ox1 ox0 oe1 oe0 address
      ∧ -2048 ≤ signed16 hi lo ∧ signed16 hi lo ≤ 2047)) :
    s.applyAngle [rate, k, ce1, ce0, cx1, cx0, ox1, ox0, oe1, oe0, dwell, address, register, hi, lo] = none := by
  by_cases passes : AnglePasses rate ce1 ce0 cx1 cx0 ox1 ox0 oe1 oe0 address
  · have range : ¬ (-2048 ≤ signed16 hi lo ∧ signed16 hi lo ≤ 2047) := fun range => fails ⟨passes, range⟩
    simp only [State.applyAngle, List.take, List.drop,
      parseAngleConfig_passed _ k _ _ _ _ _ _ _ _ dwell _ register passes, parseOffset, if_neg range, Option.map]
  · simp only [State.applyAngle, List.take, List.drop,
      parseAngleConfig_failed _ k _ _ _ _ _ _ _ _ dwell _ register passes]

end

/-! ### GAIN (R117) -/

theorem gainsFrom_append (before after : List Nat) (gains : Vector Nat 72) :
    gainsFrom (before ++ (gains.toList ++ after)) before.length = gains := by
  refine Vector.ext fun c hc => ?_
  have inside : c < gains.toList.length := by rw [Vector.length_toList]; exact hc
  rw [gainsFrom, Vector.getElem_ofFn, List.getD_append_right _ _ _ _ (Nat.le_add_right ..), Nat.add_sub_cancel_left,
    List.getD_append _ _ _ _ inside, List.getD_eq_getElem _ _ inside, Vector.getElem_toList]

theorem forall_mem_toList {P : Nat → Prop} (gains : Vector Nat 72) :
    (∀ v ∈ gains.toList, P v) ↔ ∀ c : Fin 72, P gains[c] := by
  simp only [Vector.mem_toList_iff, Vector.mem_iff_getElem]
  constructor
  · exact fun h c => h _ ⟨c, c.isLt, rfl⟩
  · rintro h _ ⟨c, hc, rfl⟩
    exact h ⟨c, hc⟩

section

variable (flat fold : Vector Nat 72) (foldPt flatPt : Nat)

/-- The values of a GAIN section in their order: both tables, then both points (10.5). -/
def gainValues : List Nat := flat.toList ++ fold.toList ++ [foldPt, flatPt]

theorem length_gainValues : (gainValues flat fold foldPt flatPt).length = 146 := by
  simp [gainValues]

theorem forall_mem_gainValues {P : Nat → Prop} (gains : ∀ c : Fin 72, P flat[c] ∧ P fold[c]) (hfold : P foldPt)
    (hflat : P flatPt) : ∀ v ∈ gainValues flat fold foldPt flatPt, P v := by
  have inFlat := (forall_mem_toList flat).mpr fun c => (gains c).1
  have inFold := (forall_mem_toList fold).mpr fun c => (gains c).2
  simp only [gainValues, List.mem_append, List.mem_cons, List.not_mem_nil, or_false]
  rintro v ((h | h) | rfl | rfl)
  · exact inFlat v h
  · exact inFold v h
  · exact hfold
  · exact hflat

theorem take_gainValues : (gainValues flat fold foldPt flatPt).take 144 = flat.toList ++ fold.toList :=
  List.take_left' (by simp)

theorem getD_gainValues : (gainValues flat fold foldPt flatPt).getD 144 0 = foldPt
    ∧ (gainValues flat fold foldPt flatPt).getD 145 0 = flatPt := by
  have points : ∀ i, (gainValues flat fold foldPt flatPt).getD (144 + i) 0 = [foldPt, flatPt].getD i 0 := fun i => by
    rw [gainValues, List.getD_append_right _ _ _ _ (by simp)]
    simp
  exact ⟨points 0, points 1⟩

theorem gainsFrom_gainValues : gainsFrom (gainValues flat fold foldPt flatPt) 0 = flat
    ∧ gainsFrom (gainValues flat fold foldPt flatPt) 72 = fold := by
  rw [gainValues, List.append_assoc]
  have behind := gainsFrom_append flat.toList [foldPt, flatPt] fold
  rw [Vector.length_toList] at behind
  exact ⟨gainsFrom_append [] _ flat, behind⟩

/-- The tests of a GAIN section (R117). -/
def GainPasses : Prop := (∀ c : Fin 72, flat[c] ≤ 4095 ∧ fold[c] ≤ 4095) ∧ foldPt < flatPt ∧ flatPt ≤ 2048

theorem gainPasses_iff : GainPasses flat fold foldPt flatPt ↔
    ((gainValues flat fold foldPt flatPt).take 144).all (· ≤ 4095) = true ∧ pointsInRange foldPt flatPt = true := by
  have tables : (∀ c : Fin 72, flat[c] ≤ 4095 ∧ fold[c] ≤ 4095)
      ↔ ((gainValues flat fold foldPt flatPt).take 144).all (· ≤ 4095) = true := by
    simp only [take_gainValues, List.all_append, Bool.and_eq_true, List.all_eq_true, decide_eq_true_eq,
      forall_mem_toList (P := (· ≤ 4095)), forall_and]
  have points : foldPt < flatPt ∧ flatPt ≤ 2048 ↔ pointsInRange foldPt flatPt = true := by
    rw [pointsInRange_iff]
    omega
  exact and_congr tables points

variable {flat fold foldPt flatPt}
variable (words : ∀ v ∈ gainValues flat fold foldPt flatPt, v < 65536) (s : State)

include words

theorem State.applyGain_passed (passes : GainPasses flat fold foldPt flatPt) :
    s.applyGain ((gainValues flat fold foldPt flatPt).flatMap wordBytes) =
      some { s with gain := { s.gain with flat := flat, fold := fold, foldPt := foldPt, flatPt := flatPt } } := by
  obtain ⟨atFold, atFlat⟩ := getD_gainValues flat fold foldPt flatPt
  obtain ⟨inFlat, inFold⟩ := gainsFrom_gainValues flat fold foldPt flatPt
  simp only [State.applyGain, be16s_wordBytes words, atFold, atFlat, inFlat, inFold]
  exact if_pos ((gainPasses_iff ..).mp passes)

theorem State.applyGain_failed (fails : ¬ GainPasses flat fold foldPt flatPt) :
    s.applyGain ((gainValues flat fold foldPt flatPt).flatMap wordBytes) = none := by
  obtain ⟨atFold, atFlat⟩ := getD_gainValues flat fold foldPt flatPt
  simp only [State.applyGain, be16s_wordBytes words, atFold, atFlat]
  exact if_neg ((gainPasses_iff ..).not.mp fails)

end

/-! ### EMIT and GUARD (R152, R161) -/

theorem clampPeriod_eq (period : Nat) :
    clampPeriod period = if period < 64 then 64 else if 4096 < period then 4096 else period := by
  unfold clampPeriod
  split_ifs <;> omega

theorem clampStep_eq (fadeStep : Nat) :
    clampStep fadeStep = if fadeStep = 0 then 1 else if 1023 < fadeStep then 1023 else fadeStep := by
  unfold clampStep
  split_ifs <;> omega

/-- A byte of 0 is taken as 1. -/
theorem max_toNat_one (b : Byte) : max b.toNat 1 = if b = 0 then 1 else b.toNat := by
  split
  · next h => rw [h]; rfl
  · next h => bv_omega

/-! ### PROFILE (R182) -/

theorem State.storeProfile_get (s : State) (d : Driver) : s.storeProfile d (s.engine.profiles.get d) = s := by
  cases d <;> rfl

theorem State.applyProfile_eq (s : State) (d : Driver) (c w t : Byte) :
    let passes := decide (1 ≤ c.toNat ∧ c.toNat ≤ 3 ∧ w.toNat ≤ 3 ∧ t.toNat ≤ 3)
    s.applyProfile d c w t =
      (passes, s.storeProfile d
        (if passes = true then ⟨c.toNat, w.toNat, t.toNat⟩ else s.engine.profiles.get d)) := by
  intro passes
  by_cases h : ProfilePasses c w t
  · have here : passes = true := decide_eq_true h
    simp only [State.applyProfile, parseProfile_passed h, here, if_true]
  · have here : passes = false := decide_eq_false h
    simp only [State.applyProfile, parseProfile_failed h, here, Bool.false_eq_true, if_false, State.storeProfile_get]

/-! ### MAP (R184) -/

/-- The slot that a byte names is READY. -/
def LayoutStore.readyAt (st : LayoutStore) (n : Byte) : Bool :=
  match st.slots[n.toNat]? with
  | some slot => decide (slot.state = .ready)
  | none => false

/-- The pending map is another one, and the mapper has been told so `told` times (R22). -/
def State.remap (s : State) (map : PostureMap) (told : Nat) : State :=
  { s with
    store := { s.store with pendingMap := map }
    mapper := { s.mapper with notices := s.mapper.notices ++ List.replicate told .mapSet } }

@[simp] theorem State.remap_pendingMap (s : State) (map : PostureMap) (told : Nat) :
    (s.remap map told).store.pendingMap = map := rfl

@[simp] theorem State.remap_readyAt (s : State) (map : PostureMap) (told : Nat) :
    (s.remap map told).store.readyAt = s.store.readyAt := rfl

@[simp] theorem State.remap_remap (s : State) (map map' : PostureMap) (told told' : Nat) :
    (s.remap map told).remap map' told' = s.remap map' (told + told') := by
  simp [State.remap]

theorem State.remap_same (s : State) : s.remap s.store.pendingMap 0 = s := by
  simp [State.remap]

theorem PostureMap.setEntry_slotFor (m : PostureMap) (p : Posture) : m.setEntry p (m.slotFor p) = m := by
  cases p <;> rfl

theorem LayoutStore.readyAt_eq_true {st : LayoutStore} {n : Byte} :
    st.readyAt n = true ↔ ∃ i : Fin 8, i.val = n.toNat ∧ st.slots[i].state = .ready := by
  unfold LayoutStore.readyAt
  by_cases h : n.toNat < 8
  · simp only [Vector.getElem?_eq_getElem h, decide_eq_true_eq]
    exact ⟨fun ready => ⟨⟨n.toNat, h⟩, rfl, ready⟩, by rintro ⟨i, hi, ready⟩; simpa [hi] using ready⟩
  · simp only [Vector.getElem?_eq_none (Nat.not_lt.mp h), Bool.false_eq_true, false_iff]
    rintro ⟨i, hi, -⟩
    exact h (hi ▸ i.isLt)

theorem State.applyMapEntry_ready {s : State} {n : Byte} (ready : s.store.readyAt n = true) (p : Posture) :
    s.applyMapEntry p n = (true, s.remap (s.store.pendingMap.setEntry p (Fin.ofNat 8 n.toNat)) 1) := by
  obtain ⟨i, hi, hready⟩ := LayoutStore.readyAt_eq_true.mp ready
  simp only [State.applyMapEntry, ← hi, s.offerToMap_ready p hready, Fin.ofNat_val_eq_self]
  rfl

theorem State.applyMapEntry_notReady {s : State} {n : Byte} (notReady : ¬ s.store.readyAt n = true) (p : Posture) :
    s.applyMapEntry p n = (false, s) := by
  by_cases h : n.toNat < 8
  · have state : s.store.slots[(⟨n.toNat, h⟩ : Fin 8)].state ≠ .ready := fun ready =>
      notReady (LayoutStore.readyAt_eq_true.mpr ⟨⟨n.toNat, h⟩, rfl, ready⟩)
    simp only [State.applyMapEntry, s.offerToMap_state p state]
  · simp only [State.applyMapEntry, s.offerToMap_range p (Nat.not_lt.mp h)]

/-- An entry of a MAP section, READY or not, in one form: where none is stored, the entry that stands is written again
(R184). -/
theorem State.applyMapEntry_eq (s : State) (p : Posture) (n : Byte) :
    s.applyMapEntry p n = (s.store.readyAt n, s.remap (s.store.pendingMap.setEntry p
      (if s.store.readyAt n = true then Fin.ofNat 8 n.toNat else s.store.pendingMap.slotFor p))
      ([n].countP s.store.readyAt)) := by
  by_cases h : s.store.readyAt n = true
  · simp [State.applyMapEntry_ready h, h]
  · simp [State.applyMapEntry_notReady h, h, PostureMap.setEntry_slotFor, State.remap_same]

theorem State.applyMap_eq (s : State) (n1 n2 n3 n4 : Byte) :
    let ready := s.store.readyAt
    let old := s.store.pendingMap
    s.applyMap [n1, n2, n3, n4] = (ready n1 && ready n2 && ready n3 && ready n4,
      s.remap
        { opened := if ready n1 = true then Fin.ofNat 8 n1.toNat else old.opened
          bent := if ready n2 = true then Fin.ofNat 8 n2.toNat else old.bent
          closedFront := if ready n3 = true then Fin.ofNat 8 n3.toNat else old.closedFront
          closedBack := if ready n4 = true then Fin.ofNat 8 n4.toNat else old.closedBack }
        ([n1, n2, n3, n4].countP ready)) := by
  simp only [State.applyMap, State.applyMapEntry_eq, State.remap_remap, State.remap_readyAt, State.remap_pendingMap,
    ← List.countP_append]
  rfl

/-- Settles O35: section by section, from its length on. -/
theorem otherSections : Obligations.OtherSections := by
  intro s word signed words
  refine ⟨?length, ?angle, ?gain, ?emit, ?guard, ?profile, ?map⟩
  case length =>
    rintro kind body (⟨rfl, wrong⟩ | ⟨rfl, wrong⟩ | ⟨rfl, wrong⟩ | ⟨rfl, wrong⟩ | ⟨rfl, wrong⟩ | ⟨rfl, wrong⟩
      | ⟨rfl, wrong⟩)
    · exact s.applySection_wrongLength rfl wrong
    · exact s.applySection_wrongLength rfl wrong
    · exact s.applySection_wrongLength rfl wrong
    · exact s.applySection_wrongLength rfl wrong
    · exact s.applySection_wrongLength rfl wrong
    · exact s.applySection_misfit (sectionFits_layout wrong)
    · exact s.applySection_wrongLength rfl wrong
  case angle =>
    intro rate k ce1 ce0 cx1 cx0 ox1 ox0 oe1 oe0 dwell address register hi lo passes body
    have taken : s.applySection 1 body = s.orKeep (s.applyAngle body) := if_pos rfl
    have offset : signed16 hi lo = signed hi lo := signed16_eq_be16 hi lo
    have tests : passes ↔ AnglePasses rate ce1 ce0 cx1 cx0 ox1 ox0 oe1 oe0 address
        ∧ -2048 ≤ signed16 hi lo ∧ signed16 hi lo ≤ 2047 := by
      simp only [passes, AnglePasses, and_assoc, offset]
      rfl
    rw [taken, tests, ← offset]
    refine ⟨fun h => ?_, fun h => ?_⟩
    · rw [s.applyAngle_passed h.1 h.2]
      rfl
    · rw [s.applyAngle_failed h]
      rfl
  case gain =>
    intro flat fold foldPt flatPt gains hfold hflat passes body
    have asWords := forall_mem_gainValues (P := (· < 65536)) flat fold foldPt flatPt gains hfold hflat
    have fits : body.length = 292 :=
      (length_flatMap_wordBytes _).trans (congrArg (2 * ·) (length_gainValues flat fold foldPt flatPt))
    have taken : s.applySection 2 body = s.orKeep (s.applyGain body) :=
      if_pos (congrArg some (decide_eq_true fits))
    refine ⟨fun h => taken.trans ?_, fun h => taken.trans ?_⟩
    · exact congrArg s.orKeep (State.applyGain_passed asWords s h)
    · exact congrArg s.orKeep (State.applyGain_failed asWords s h)
  case emit =>
    intro f1 f0 s1 s0 b1 b0 p1 p0 t1 t0 zones period fadeStep
    rw [← clampPeriod_eq, ← clampStep_eq]
    rfl
  case guard =>
    intro h b blank
    have hblank : max b.toNat 1 = blank := max_toNat_one b
    have hzero : h.toNat = 0 ↔ h = 0 := by bv_omega
    refine (if_pos rfl : _ = s.orKeep (s.applyGuard _)).trans ?_
    cases state : s.guard.state <;>
      simp only [State.applyGuard, State.orKeep, LinkGuard.setCodes, LinkGuard.restartTimer, freshTimer, holdLimit,
        blankLimit, state, hblank, hzero]
  case profile =>
    intro c1 w1 t1 c2 w2 t2 c3 w3 t3 good stored old
    refine (if_pos rfl : _ = s.applyProfiles _).trans ?_
    simp only [State.applyProfiles, State.applyProfile_eq]
    rfl
  case map =>
    intro n1 n2 n3 n4 ready stored old notices
    exact (if_pos rfl : _ = s.applyMap _).trans (s.applyMap_eq n1 n2 n3 n4)

end Sys2Proof.Machine
end

section
/-! Grants, windows, rejections and drops on the panel bus: what each command of a transfer writes (R122 to R135). -/

namespace Sys2Proof.Machine

open Sys2Proof.Safety

/-! ### Arbitration (R122, R123) -/

/-- The driver granted has a run, and the drivers before it in the cyclic order after the pointer have none (R122). -/
theorem Engine.grantee_eq_some {e : Engine} {d : Driver} (holds : e.queues.get d ≠ [])
    (first : d = e.pointer.next
      ∨ (d = e.pointer.next.next ∧ e.queues.get e.pointer.next = [])
      ∨ (d = e.pointer ∧ e.queues.get e.pointer.next = [] ∧ e.queues.get e.pointer.next.next = [])) :
    e.grantee = some d := by
  unfold Engine.grantee arbiterOrder
  rcases first with rfl | ⟨rfl, empty⟩ | ⟨rfl, empty, empty'⟩
  · simp [holds]
  · simp [holds, empty]
  · simp [holds, empty, empty']

/-- With all queues empty no driver is granted (R122). -/
theorem Engine.grantee_of_empty {e : Engine} (empty : e.queues = ⟨[], [], []⟩) : e.grantee = none := by
  have noRun : ∀ d, e.queues.get d = [] := fun d => by rw [empty]; cases d <;> rfl
  simp [Engine.grantee, noRun]

section

variable {s : State}

theorem exec_grant (idle : s.engine.phase = .idle) {d : Driver} (granted : s.engine.grantee = some d) {r : Run}
    {later : List Run} (head : s.engine.queues.get d = r :: later) :
    exec .grant s = .next { s with engine := s.engine.grantRun d r later } := by
  simp only [exec, execGrant, idle, granted, head]

theorem exec_grant_ignored (h : s.engine.phase ≠ .idle ∨ s.engine.grantee = none) : exec .grant s = .next s := by
  simp only [exec, execGrant]
  split
  · next idle granted =>
    rcases h with busy | nobody
    · exact absurd idle busy
    · cases nobody.symm.trans granted
  · rfl

/-! ### Starts and ends of a WINDOW (R126, R127, R128) -/

theorem exec_turnaroundDone {owed : Nat} (phase : s.engine.phase = .turnaround owed) {r : Run}
    (run : s.engine.inTransfer = some r) :
    exec .turnaroundDone s = .next { s with engine := s.engine.startWindow r } := by
  simp only [exec, execTurnaroundDone, phase, run]

theorem exec_turnaroundDone_ignored (h : ∀ owed, s.engine.phase ≠ .turnaround owed) :
    exec .turnaroundDone s = .next s := by
  simp only [exec, execTurnaroundDone]
  split
  · next phase _ => exact absurd phase (h _)
  · rfl

theorem exec_retryDone {owed : Nat} (phase : s.engine.phase = .retry owed) {r : Run}
    (run : s.engine.inTransfer = some r) :
    exec .retryDone s = .next { s with engine := s.engine.startWindow r } := by
  simp only [exec, execRetryDone, phase, run]

theorem exec_retryDone_ignored (h : ∀ owed, s.engine.phase ≠ .retry owed) : exec .retryDone s = .next s := by
  simp only [exec, execRetryDone]
  split
  · next phase _ => exact absurd phase (h _)
  · rfl

theorem exec_windowAccepted (phase : s.engine.phase = .window) {r : Run} (run : s.engine.inTransfer = some r) :
    exec .windowAccepted s = .next
      (State.send { s with engine := { s.engine with phase := .data, holdCount := 0 } }
        (.window r.driver r.row r.firstCol (r.firstCol + r.count - 1) r.count)) := by
  simp only [exec, execWindowAccepted, phase, run]

theorem exec_windowAccepted_ignored (h : s.engine.phase ≠ .window) : exec .windowAccepted s = .next s := by
  simp only [exec, execWindowAccepted]
  split
  · next phase _ => exact absurd phase h
  · rfl

theorem exec_runFinished_ignored (h : s.engine.phase ≠ .data) : exec .runFinished s = .next s := by
  simp only [exec, execRunFinished]
  split
  · next phase _ => exact absurd phase h
  · rfl

end

/-! ### The driver selects (R126 to R129) -/

theorem Engine.selected_of_transfer {e : Engine} (phase : e.phase = .window ∨ e.phase = .data) {r : Run}
    (run : e.inTransfer = some r) : e.selected = some r.driver := by
  rcases phase with phase | phase <;> simp only [Engine.selected, phase, run, Option.map_some]

theorem Engine.selected_none {e : Engine} (window : e.phase ≠ .window) (data : e.phase ≠ .data) :
    e.selected = none := by
  unfold Engine.selected
  split
  · next phase => exact absurd phase window
  · next phase => exact absurd phase data
  · rfl
  · rfl
  · rfl

/-- Settles O49: a grant through the driver it finds and the beats it owes, and each command in its phase and outside
of it. -/
theorem grantsAndWindows : Obligations.GrantsAndWindows := by
  unfold Obligations.GrantsAndWindows
  intro window
  refine ⟨fun s d r later idle head first => ?_, fun s r owed run => ⟨?_, ?_, ?_⟩,
    fun s => ⟨fun h => ?_, exec_turnaroundDone_ignored, exec_retryDone_ignored, exec_windowAccepted_ignored,
      exec_runFinished_ignored⟩,
    fun e => ⟨fun r phase => Engine.selected_of_transfer phase, Engine.selected_none⟩,
    fun wait turnaround => ⟨rfl, rfl, rfl⟩⟩
  · have holds : s.engine.queues.get d ≠ [] := by simp [head]
    have grants := exec_grant idle (Engine.grantee_eq_some holds first) head
    intro granted owed
    have beats : s.engine.owedBeats d = owed := rfl
    refine ⟨fun nothing => ?_, fun something => ?_⟩
    · rw [grants, Engine.grantRun, if_pos (beats.trans nothing)]
      rfl
    · rw [grants, Engine.grantRun, if_neg (beats ▸ something), beats]
  · exact fun phase => exec_turnaroundDone phase run
  · exact fun phase => exec_retryDone phase run
  · exact fun phase => exec_windowAccepted phase run
  · exact exec_grant_ignored (h.imp_right Engine.grantee_of_empty)

/-! ### REJECT and the hold limit (R127, R128, R131, R135) -/

/-- No line, or that of the run's driver, is one that is acted on (R135, log 29). -/
theorem Outside.speaksOf_iff (o : Outside) (r : Run) :
    o.speaksOf r = true ↔ o.lineFrom = none ∨ o.lineFrom = some r.driver := by
  unfold Outside.speaksOf
  cases o.lineFrom <;> simp

section

variable {s : State} {r : Run}

theorem exec_reject (phase : s.engine.phase = .window) (run : s.engine.inTransfer = some r)
    (speaks : s.outside.speaksOf r = true) : exec .reject s = .next (s.rejectRun r) := by
  simp only [exec, execReject, phase, run, speaks, if_true]

theorem exec_reject_otherPhase (h : s.engine.phase ≠ .window) : exec .reject s = .next s := by
  simp only [exec, execReject]
  split
  · next phase _ => exact absurd phase h
  · rfl

theorem exec_reject_otherDriver (run : s.engine.inTransfer = some r) (silent : ¬ s.outside.speaksOf r = true) :
    exec .reject s = .next s := by
  simp only [exec, execReject, run]
  split
  · next same =>
    cases same
    exact if_neg silent
  · rfl

theorem exec_holdLimit_window (phase : s.engine.phase = .window) (run : s.engine.inTransfer = some r)
    (speaks : s.outside.speaksOf r = true) (pairsDone : Nat) :
    exec (.holdLimit pairsDone) s =
      .next (State.dropRun { s with engine := { s.engine with holdCount := 2049 } } r .driverStuck) := by
  simp only [exec, execHoldLimit, phase, run, speaks, if_true, holdLimitCount]

theorem exec_holdLimit_data (phase : s.engine.phase = .data) (run : s.engine.inTransfer = some r)
    (speaks : s.outside.speaksOf r = true) (pairsDone : Nat) :
    exec (.holdLimit pairsDone) s =
      .next ((State.sendPairs { s with engine := { s.engine with holdCount := 2049 } } r
        (min pairsDone (r.pairs - 1))).dropRun r .driverStuck) := by
  simp only [exec, execHoldLimit, phase, run, speaks, if_true, holdLimitCount]

theorem exec_holdLimit_otherPhase (window : s.engine.phase ≠ .window) (data : s.engine.phase ≠ .data)
    (pairsDone : Nat) : exec (.holdLimit pairsDone) s = .next s := by
  simp only [exec, execHoldLimit]
  split
  · next phase _ => exact absurd phase window
  · next phase _ => exact absurd phase data
  · rfl

theorem exec_holdLimit_otherDriver (run : s.engine.inTransfer = some r) (silent : ¬ s.outside.speaksOf r = true)
    (pairsDone : Nat) : exec (.holdLimit pairsDone) s = .next s := by
  simp only [exec, execHoldLimit, run]
  split
  · next same =>
    cases same
    exact if_neg silent
  · next same =>
    cases same
    exact if_neg silent
  · rfl

end

/-! ### Drops (R132, R133, R134) -/

/-- A drop releases what the end of the run does. -/
theorem State.dropRun_releases (s : State) (r : Run) (code : FaultCode) :
    ReferencesReleased s (s.dropRun r code) r := by
  obtain ⟨line, snapshot, intake, gain⟩ := s.closeRun_releases r
  exact ⟨line, snapshot, intake, gain⟩

/-- `t` is `s` with the run `r` dropped, and with this hold count, free index and record of what has left the part
(R132 to R134). -/
def Dropped (s t : State) (r : Run) (code : FaultCode) (holdCount free : Nat) (outside : Outside) : Prop :=
  ReferencesReleased s t r
  ∧ t.engine = { s.engine with
      phase := .idle, inTransfer := none, holdCount := holdCount
      lastClose := some ⟨r.driver, s.engine.profileInUse.turnaround, 0⟩
      faultFlags := s.engine.faultFlags.set r.driver true }
  ∧ t.reports = s.reports.offer s.guard.tick (.fault code r.driver r.row s.posture.f)
  ∧ t.mapper = { s.mapper with notices := s.mapper.notices ++ [.drop r.driver] }
  ∧ t.outside = outside ∧ t.store = s.store ∧ t.posture = s.posture ∧ t.bus = s.bus
  ∧ t.emission = s.emission ∧ t.guard = s.guard ∧ t.control = s.control ∧ t.loader = s.loader
  ∧ t.freeIndex = free ∧ t.pending = s.pending

/-- What precedes a drop in REJECT and HOLD_LIMIT, a hold count, a free value used and pairs sent, is no part of what
the drop itself changes. -/
theorem State.dropRun_dropped (s : State) (r : Run) (code : FaultCode) (holdCount free : Nat) (outside : Outside) :
    Dropped s (State.dropRun { s with
      engine := { s.engine with holdCount := holdCount }, freeIndex := free, outside := outside } r code)
      r code holdCount free outside := by
  obtain ⟨line, snapshot, intake, gain⟩ := State.dropRun_releases { s with
    engine := { s.engine with holdCount := holdCount }, freeIndex := free, outside := outside } r code
  exact ⟨⟨line, snapshot, intake, gain⟩, rfl, rfl, rfl, rfl, rfl, rfl, rfl, rfl, rfl, rfl, rfl, rfl, rfl⟩

/-- A REJECT of attempts 1 to 3 leads into RETRY (R128). -/
theorem State.rejectRun_retries {r : Run} (again : r.attempts < 4) (s : State) :
    s.rejectRun r = { s with
      engine := { s.engine with
        phase := .retry (1 + s.engine.profileInUse.turnaround)
        holdCount := s.engine.holdAfterReject (Config.holdOnReject s.freeIndex) }
      freeIndex := s.freeIndex + 1 } := by
  rw [State.rejectRun, if_pos again]

/-- A REJECT of the fourth attempt drops the run (R128). -/
theorem State.rejectRun_drops {r : Run} (last : 4 ≤ r.attempts) (s : State) :
    s.rejectRun r = State.dropRun { s with
      engine := { s.engine with holdCount := s.engine.holdAfterReject (Config.holdOnReject s.freeIndex) }
      freeIndex := s.freeIndex + 1 } r .driverReject := by
  rw [State.rejectRun, if_neg last.not_gt]

/-- Settles O50: where nothing is acted on, the two outcomes of a REJECT, and the drop at the hold limit in WINDOW and,
with the pairs sent before it, in DATA. -/
theorem rejectAndHoldLimit : Obligations.RejectAndHoldLimit := by
  intro s
  refine ⟨exec_reject_otherPhase, exec_holdLimit_otherPhase, ?_⟩
  intro r run dropped
  refine ⟨?other, ?own⟩
  case other =>
    intro d line other
    have silent : ¬ s.outside.speaksOf r = true := by simp [s.outside.speaksOf_iff, line, other]
    exact ⟨exec_reject_otherDriver run silent, exec_holdLimit_otherDriver run silent⟩
  case own =>
    intro own
    have speaks : s.outside.speaksOf r = true := (s.outside.speaksOf_iff r).mpr own
    refine ⟨fun window => ⟨Config.holdOnReject s.freeIndex, fun again => ?retry, fun last => ?drop⟩,
      fun pairsDone => ⟨fun window => ?window, fun data => ?data⟩⟩
    case retry =>
      rw [exec_reject window run speaks, State.rejectRun_retries again]
      rfl
    case drop =>
      refine ⟨_, exec_reject window run speaks, ?_⟩
      rw [State.rejectRun_drops last]
      exact s.dropRun_dropped r .driverReject _ (s.freeIndex + 1) s.outside
    case window =>
      exact ⟨_, exec_holdLimit_window window run speaks pairsDone,
        s.dropRun_dropped r .driverStuck 2049 s.freeIndex s.outside⟩
    case data =>
      exact ⟨_, _, exec_holdLimit_data data run speaks pairsDone, s.runPixels_length r _,
        fun _ => s.runPixels_getElem? r _, s.dropRun_dropped r .driverStuck 2049 s.freeIndex _⟩

end Sys2Proof.Machine
end

section
/-! Fading and on-counts, and what the commands of the emission unit, the emergency stop and FAULT_CLEAR answer (R140 to
R151, R170). -/

namespace Sys2Proof.Machine

open Sys2Proof.Safety

/-! ### The on-count of a level (R142) -/

theorem onCountOf_zero (period : Nat) : onCountOf 0 period = 0 := by
  simp [onCountOf]

theorem onCountOf_full (period : Nat) : onCountOf 1023 period = period := by
  unfold onCountOf
  omega

theorem onCountOf_mono {lower level : Nat} (h : lower ≤ level) (period : Nat) :
    onCountOf lower period ≤ onCountOf level period :=
  Nat.div_le_div_right (Nat.add_le_add_right (Nat.mul_le_mul_right period h) 511)

/-- No level is on for longer than the period. -/
theorem onCountOf_le {level : Nat} (h : level ≤ 1023) (period : Nat) : onCountOf level period ≤ period :=
  (onCountOf_mono h period).trans_eq (onCountOf_full period)

/-- The division by 1023 rounds to the nearest tick. -/
theorem onCountOf_rounds (level period : Nat) :
    2 * (1023 * onCountOf level period) ≤ 2 * (level * period) + 1023
      ∧ 2 * (level * period) ≤ 2 * (1023 * onCountOf level period) + 1023 := by
  unfold onCountOf
  generalize level * period = product
  omega

/-- Settles O55: the order of the levels bounds every on-count by that of the full level. -/
theorem onCountOfLevel : Obligations.OnCountOfLevel := fun level period h =>
  ⟨rfl, onCountOf_zero period, onCountOf_full period, onCountOf_le h period, fun _ below => onCountOf_mono below period,
    onCountOf_rounds level period⟩

/-! ### Period ends (R141 to R145, R148) -/

/-- Settles O54: the model's period end, zone by zone, with and without a pending period. -/
theorem periodEndEffect : Obligations.PeriodEndEffect := by
  intro s zone
  have faded : ∀ z : Zone, (s.emission.zones.get z).atPeriodEnd (s.effectiveTarget z) s.emission.fadeStep
      s.emission.period = zone (s.emission.zones.get z) := fun _ => rfl
  simp only [exec, execPeriodEnd, faded]
  cases s.emission.pendingPeriod <;> rfl

/-! ### FAULT_CLEAR (R151, R170) -/

section

variable {s : State}

/-- While ESTOP is active the latch stays set. -/
theorem faultClearAction_latched (latch : s.emission.latch = true) (estop : s.outside.estop = true)
    (operands : List Byte) :
    faultClearAction operands s =
      ⟨.ok, [1, 0], { s with engine := { s.engine with faultFlags := ⟨false, false, false⟩ } }⟩ := by
  have stays : { s.emission with latch := true } = s.emission := by rw [← latch]
  simp only [faultClearAction, latch, estop, Bool.and_self, stays]
  rfl

theorem faultClearAction_clear (clear : s.emission.latch = false ∨ s.outside.estop = false) (operands : List Byte) :
    faultClearAction operands s =
      ⟨.ok, [0, 0],
        { s with
          engine := { s.engine with faultFlags := ⟨false, false, false⟩ }
          emission := { s.emission with latch := false } }⟩ := by
  have cleared : (s.emission.latch && s.outside.estop) = false := Bool.and_eq_false_iff.mpr clear
  simp only [faultClearAction, cleared]
  rfl

end

/-- Settles O8: by whether the latch is set and ESTOP is active. -/
theorem faultClearEffect : Obligations.FaultClearEffect := fun _ _ _ asked idle =>
  ⟨fun latch estop => congrArg Host.Outcome.next
      (carryOut_of_asks asked rfl (.inl idle) (faultClearAction_latched latch estop []) rfl),
    fun clear => congrArg Host.Outcome.next
      (carryOut_of_asks asked rfl (.inl idle) (faultClearAction_clear clear []) rfl)⟩

/-! ### EMIT_SET (R146) -/

theorem emitSetAction_stored {code : Byte} {z : Zone} (hcode : z.code = code.toNat) (hi lo : Byte) (s : State) :
    emitSetAction [code, hi, lo] s =
      ⟨.ok, code :: wordBytes (min (be16 hi lo) 1023), { s with emission := s.emission.setLevel z (be16 hi lo) }⟩ := by
  simp only [emitSetAction, ← hcode, Zone.ofCode?_code, Reply.done]

theorem emitSetAction_range {code : Byte} (beyond : 3 ≤ code.toNat) (hi lo : Byte) (s : State) :
    emitSetAction [code, hi, lo] s = .refuse .range s := by
  simp only [emitSetAction, Zone.ofCode?_eq_none beyond]

/-! ### The emergency stop and the outputs (R140, R149, R150) -/

theorem State.estopActs_of_clear {s : State} (estop : s.outside.estop = true) (clear : s.emission.latch = false) :
    s.estopActs = State.offer
      { s with emission := { s.emission with latch := true, zones := s.emission.zones.map ZoneEmission.stopped } }
      (.fault .estop .front 0 s.posture.f) :=
  if_pos ⟨estop, clear⟩

theorem State.estopActs_of_latched {s : State} (latch : s.emission.latch = true) : s.estopActs = s :=
  if_neg fun h => Bool.false_ne_true (h.2.symm.trans latch)

/-- Whenever ESTOP is active, the latch is set once it has acted (R149). -/
theorem State.estopActs_latch {s : State} (estop : s.outside.estop = true) : s.estopActs.emission.latch = true := by
  cases latch : s.emission.latch with
  | false => rw [State.estopActs_of_clear estop latch]; rfl
  | true => rwa [State.estopActs_of_latched latch]

theorem EmissionUnit.output_iff (e : EmissionUnit) (z : Zone) :
    e.output z = true ↔ (e.zones.get z).counter < (e.zones.get z).onCount ∧ e.latch = false := by
  simp [EmissionUnit.output]

theorem EmissionUnit.output_of_latch {e : EmissionUnit} (latch : e.latch = true) (z : Zone) : e.output z = false := by
  simp [EmissionUnit.output, latch]

/-- Settles O56: each command's action with the model's clamps, and ESTOP by whether the latch is set. -/
theorem emissionCommandsAndEstop : Obligations.EmissionCommandsAndEstop := by
  refine ⟨?emitSet, ?periodAndFade, ?estop, EmissionUnit.output_iff, fun s => ?dark⟩
  case emitSet =>
    intro s p rest code hi lo asked idle level
    refine ⟨fun z hz => congrArg Host.Outcome.next ?_, fun beyond => congrArg Host.Outcome.next ?_⟩
    · exact carryOut_of_asks asked rfl (.inl idle) (emitSetAction_stored hz hi lo s) rfl
    · exact carryOut_of_asks_refused asked rfl (.inl idle) (emitSetAction_range beyond hi lo s)
  case periodAndFade =>
    intro s p rest hi lo idle value period fadeStep
    have hperiod : clampPeriod (be16 hi lo) = period := clampPeriod_eq value
    have hstep : clampStep (be16 hi lo) = fadeStep := clampStep_eq value
    rw [← hperiod, ← hstep]
    exact ⟨fun asked => congrArg Host.Outcome.next (carryOut_of_asks asked rfl (.inl idle) rfl rfl),
      fun asked => congrArg Host.Outcome.next (carryOut_of_asks asked rfl (.inl idle) rfl rfl)⟩
  case estop =>
    intro s stopped
    refine ⟨fun clear => congrArg Host.Outcome.next ?_, fun latch => congrArg Host.Outcome.next ?_, rfl⟩
    · exact State.estopActs_of_clear rfl clear
    · exact State.estopActs_of_latched latch
  case dark =>
    have latch := State.estopActs_latch (s := { s with outside := { s.outside with estop := true } }) rfl
    exact ⟨_, rfl, EmissionUnit.output_of_latch latch⟩

end Sys2Proof.Machine
end

section
/-! The laws of the emission unit and of the guard timer, and that each operation on the two units keeps them (R140 to
R149, R156 to R160). -/

namespace Sys2Proof.Machine

open Sys2Proof.Safety

/-! ### The law of the emission unit -/

/-- What the law of the emission unit says of the unit alone (R140, R145 to R149). -/
structure EmissionUnitLaw (e : EmissionUnit) : Prop where
  zones : ∀ z : Zone, ZoneLaw (e.zones.get z) e.period
  together : ∀ z : Zone, (e.zones.get z).counter = e.zones.front.counter
  period : 64 ≤ e.period ∧ e.period ≤ 4096
  pendingPeriod : ∀ p, e.pendingPeriod = some p → 64 ≤ p ∧ p ≤ 4096
  step : 1 ≤ e.fadeStep ∧ e.fadeStep ≤ 1023
  latched : e.latch = true → ∀ z : Zone, (e.zones.get z).current = 0 ∧ (e.zones.get z).onCount = 0

/-- The latch is set whenever ESTOP is active (R149, R151). -/
def EstopLatched (s : State) : Prop := s.outside.estop = true → s.emission.latch = true

theorem emissionLaw_iff (s : State) : EmissionLaw s ↔ EmissionUnitLaw s.emission ∧ EstopLatched s := by
  constructor
  · rintro ⟨zones, together, period, pendingPeriod, step, latched, estop⟩
    exact ⟨⟨zones, together, period, pendingPeriod, step, latched⟩, estop⟩
  · rintro ⟨⟨zones, together, period, pendingPeriod, step, latched⟩, estop⟩
    exact ⟨zones, together, period, pendingPeriod, step, latched, estop⟩

theorem EstopLatched.of_eq {s t : State} (latch : t.emission.latch = s.emission.latch)
    (estop : t.outside.estop = s.outside.estop) (latched : EstopLatched s) : EstopLatched t := by
  rw [EstopLatched, latch, estop]
  exact latched

/-! ### Commands and modes (R144, R146 to R148) -/

/-- Between period ends a zone may get another mode and another commanded level. -/
structure ZoneKept (z z' : ZoneEmission) : Prop where
  commanded : z.commanded ≤ 1023 → z'.commanded ≤ 1023
  current : z'.current = z.current
  onCount : z'.onCount = z.onCount
  counter : z'.counter = z.counter

theorem ZoneKept.refl (z : ZoneEmission) : ZoneKept z z := ⟨id, rfl, rfl, rfl⟩

theorem ZoneKept.zoneLaw {z z' : ZoneEmission} (kept : ZoneKept z z') {period : Nat} (law : ZoneLaw z period) :
    ZoneLaw z' period where
  commanded := kept.commanded law.commanded
  current := kept.current ▸ law.current
  onCount := kept.onCount ▸ law.onCount
  counter := kept.counter ▸ law.counter

theorem clampPeriod_range (period : Nat) : 64 ≤ clampPeriod period ∧ clampPeriod period ≤ 4096 := by
  unfold clampPeriod
  omega

theorem clampStep_range (step : Nat) : 1 ≤ clampStep step ∧ clampStep step ≤ 1023 := by
  unfold clampStep
  omega

namespace EmissionUnitLaw

variable {e : EmissionUnit} (law : EmissionUnitLaw e)

include law

theorem setZones {zones : PerZone ZoneEmission} (kept : ∀ z, ZoneKept (e.zones.get z) (zones.get z)) :
    EmissionUnitLaw { e with zones := zones } where
  zones z := (kept z).zoneLaw (law.zones z)
  together z := (kept z).counter.trans ((law.together z).trans (kept .front).counter.symm)
  period := law.period
  pendingPeriod := law.pendingPeriod
  step := law.step
  latched latch z := by
    rw [(kept z).current, (kept z).onCount]
    exact law.latched latch z

theorem takeModes (modes : PerZone ZoneMode) : EmissionUnitLaw (e.takeModes modes) :=
  law.setZones fun z => by cases z <;> exact ⟨id, rfl, rfl, rfl⟩

theorem setLevel (z : Zone) (level : Nat) : EmissionUnitLaw (e.setLevel z level) := by
  refine law.setZones fun z' => ?_
  by_cases same : z' = z
  · subst same
    rw [PerZone.get_set_same]
    exact ⟨fun _ => min_le_right .., rfl, rfl, rfl⟩
  · rw [PerZone.get_set_other _ _ same]
    exact .refl _

theorem setPendingPeriod (period : Nat) :
    EmissionUnitLaw { e with pendingPeriod := some (clampPeriod period) } where
  __ := law
  pendingPeriod _ h := Option.some.inj h ▸ clampPeriod_range period

theorem setFadeStep (step : Nat) : EmissionUnitLaw { e with fadeStep := clampStep step } where
  __ := law
  step := clampStep_range step

/-! ### The latch (R149, R151) -/

/-- The latch may be cleared at any time. -/
theorem setLatch {latch : Bool} (clears : latch = true → e.latch = true) :
    EmissionUnitLaw { e with latch := latch } where
  __ := law
  latched set := law.latched (clears set)

/-- ESTOP sets the latch together with every current level and on-count to 0. -/
theorem stop : EmissionUnitLaw { e with latch := true, zones := e.zones.map ZoneEmission.stopped } where
  __ := law
  zones z := by
    rw [PerZone.get_map]
    exact ⟨(law.zones z).commanded, Nat.zero_le _, Nat.zero_le _, (law.zones z).counter⟩
  together z := by
    rw [PerZone.get_map]
    exact law.together z
  latched _ z := by
    rw [PerZone.get_map]
    exact ⟨rfl, rfl⟩

/-! ### The passing of time and period ends (R140 to R145) -/

/-- A counter that counts on stays below the period. -/
theorem timePasses (index : Nat) : EmissionUnitLaw (e.timePasses index) where
  zones z := by
    obtain ⟨commanded, current, onCount, counter⟩ := law.zones z
    have counts := runsUpTo_between .pwm index e.period (e.zones.get z).counter
    rw [e.timePasses_get]
    refine ⟨commanded, current, onCount, ?_⟩
    show runsUpTo .pwm index e.period (e.zones.get z).counter < e.period
    omega
  together z := by
    rw [e.timePasses_get]
    exact congrArg (runsUpTo .pwm index e.period) (law.together z)
  period := law.period
  pendingPeriod := law.pendingPeriod
  step := law.step
  latched latch z := by
    rw [e.timePasses_get]
    exact law.latched latch z

end EmissionUnitLaw

theorem fade_le (current target step : Nat) : fade current target step ≤ max current target := by
  unfold fade
  split_ifs <;> omega

/-- A dark zone stays dark. -/
theorem fade_zero (step : Nat) : fade 0 0 step = 0 := rfl

theorem State.effectiveTarget_le (s : State) (z : Zone) : s.effectiveTarget z ≤ (s.emission.zones.get z).commanded := by
  unfold State.effectiveTarget
  split
  · exact Nat.zero_le _
  · exact le_rfl

theorem State.effectiveTarget_of_latch {s : State} (latch : s.emission.latch = true) (z : Zone) :
    s.effectiveTarget z = 0 :=
  if_pos (.inr (.inr latch))

/-- A period of 64 to 4096 holds the new on-count, and any new period holds a counter of 0. -/
theorem zoneLaw_atPeriodEnd {z : ZoneEmission} {period : Nat} (law : ZoneLaw z period) (top : period ≤ 4096)
    {target : Nat} (reach : target ≤ 1023) (step : Nat) {next : Nat} (least : 0 < next) :
    ZoneLaw (z.atPeriodEnd target step period) next where
  commanded := law.commanded
  current := (fade_le ..).trans (max_le law.current reach)
  onCount := (onCountOf_le ((fade_le ..).trans (max_le law.current reach)) period).trans top
  counter := least

/-- The emission unit after a period end (R141). -/
def State.endPeriod (s : State) : EmissionUnit :=
  let zone := fun z => (s.emission.zones.get z).atPeriodEnd (s.effectiveTarget z) s.emission.fadeStep s.emission.period
  { s.emission with
    zones := ⟨zone .front, zone .spine, zone .back⟩
    period := s.emission.pendingPeriod.getD s.emission.period
    pendingPeriod := none }

theorem State.endPeriod_get (s : State) (z : Zone) :
    s.endPeriod.zones.get z =
      (s.emission.zones.get z).atPeriodEnd (s.effectiveTarget z) s.emission.fadeStep s.emission.period := by
  cases z <;> rfl

theorem State.endPeriod_period (s : State) :
    s.endPeriod.period = s.emission.pendingPeriod.getD s.emission.period := rfl

theorem exec_periodEnd (s : State) : exec .periodEnd s = .next { s with emission := s.endPeriod } := rfl

theorem EmissionUnitLaw.endPeriod {s : State} (law : EmissionUnitLaw s.emission) : EmissionUnitLaw s.endPeriod := by
  have period : 64 ≤ s.endPeriod.period ∧ s.endPeriod.period ≤ 4096 := by
    rw [s.endPeriod_period]
    cases pending : s.emission.pendingPeriod with
    | none => exact law.period
    | some p => exact law.pendingPeriod p pending
  refine ⟨fun z => ?_, fun z => ?_, period, nofun, law.step, fun latch z => ?_⟩
  · rw [s.endPeriod_get]
    exact zoneLaw_atPeriodEnd (law.zones z) law.period.2 ((s.effectiveTarget_le z).trans (law.zones z).commanded) _
      (by omega)
  · rw [s.endPeriod_get]
    rfl
  · have dark : fade (s.emission.zones.get z).current (s.effectiveTarget z) s.emission.fadeStep = 0 := by
      rw [(law.latched latch z).1, State.effectiveTarget_of_latch latch, fade_zero]
    rw [s.endPeriod_get]
    refine ⟨dark, ?_⟩
    show onCountOf (fade _ _ _) _ = 0
    rw [dark, onCountOf_zero]

/-! ### The law of the guard timer (R156 to R160) -/

/-- A timer runs against a limit, and not past it. -/
def RunsAgainst (timer : Option GuardTimer) (limit : Nat) : Prop :=
  ∃ t, timer = some t ∧ t.limit = limit ∧ t.count ≤ t.limit

theorem RunsAgainst.fresh (limit : Nat) : RunsAgainst (some ⟨0, limit⟩) limit := ⟨_, rfl, rfl, Nat.zero_le _⟩

theorem RunsAgainst.advance {timer : Option GuardTimer} {limit : Nat} (runs : RunsAgainst timer limit) :
    RunsAgainst (timer.map GuardTimer.advance) limit := by
  obtain ⟨t, rfl, hlimit, -⟩ := runs
  exact ⟨t.advance, rfl, hlimit, min_le_right ..⟩

/-- A timer that is started afresh obeys the law, whatever it was before. -/
theorem restartTimer_guardLaw {g : LinkGuard} (codes : g.holdCode ≤ 255 ∧ 1 ≤ g.blankCode ∧ g.blankCode ≤ 255) :
    GuardLaw g.restartTimer where
  codes := codes
  live state := by
    have timer : g.restartTimer.timer = if g.holdCode = 0 then none else some ⟨0, holdLimit g.holdCode⟩ :=
      congrArg (freshTimer · g.holdCode g.blankCode) state
    rw [timer]
    show if g.holdCode = 0 then _ else _
    split
    · rfl
    · exact RunsAgainst.fresh _
  hold state := by
    have timer : g.restartTimer.timer = some ⟨0, blankLimit g.blankCode⟩ :=
      congrArg (freshTimer · g.holdCode g.blankCode) state
    rw [timer]
    exact RunsAgainst.fresh _
  blank state := congrArg (freshTimer · g.holdCode g.blankCode) state

theorem guardLaw_setState {g : LinkGuard} (law : GuardLaw g) (new : GuardState) :
    GuardLaw (LinkGuard.restartTimer { g with state := new }) :=
  restartTimer_guardLaw law.codes

/-- Any two bytes are codes that GUARD_SET can store, a blank code of 0 as 1 (R160). -/
theorem setCodes_guardLaw (g : LinkGuard) (hold blank : Byte) : GuardLaw (g.setCodes hold.toNat blank.toNat) := by
  refine restartTimer_guardLaw ⟨Nat.le_of_lt_succ hold.isLt, le_max_right .., ?_⟩
  exact max_le (Nat.le_of_lt_succ blank.isLt) (by decide)

theorem guardLaw_advance {g : LinkGuard} (law : GuardLaw g) (tick : BitVec 32) :
    GuardLaw { g with tick := tick, timer := g.timer.map GuardTimer.advance } where
  codes := law.codes
  live state := by
    have live := law.live state
    show if g.holdCode = 0 then _ else _
    split
    · next stopped =>
      rw [if_pos stopped] at live
      exact congrArg (Option.map GuardTimer.advance) live
    · next runs =>
      rw [if_neg runs] at live
      exact RunsAgainst.advance live
  hold state := RunsAgainst.advance (law.hold state)
  blank state := congrArg (Option.map GuardTimer.advance) (law.blank state)

end Sys2Proof.Machine
end

section
/-! Every step keeps the law of the emission unit and the law of the guard timer (R140 to R149, R156, R160): most
commands leave both units as they are, and the few that write them go through the operations whose laws stand above. -/

namespace Sys2Proof.Machine

open Sys2Proof.Safety

/-! ### What passes the laws on -/

/-- Each of the two laws, if it holds before, holds after. -/
structure LawsPass (s t : State) : Prop where
  emission : EmissionLaw s → EmissionLaw t
  guard : GuardLaw s.guard → GuardLaw t.guard

namespace LawsPass

theorem refl (s : State) : LawsPass s s := ⟨id, id⟩

theorem trans {s t u : State} (h : LawsPass s t) (h' : LawsPass t u) : LawsPass s u :=
  ⟨h'.emission ∘ h.emission, h'.guard ∘ h.guard⟩

/-- The same, with the later change first. -/
theorem after {s t u : State} (h' : LawsPass t u) (h : LawsPass s t) : LawsPass s u := h.trans h'

theorem answers {s t : State} (h : LawsPass s t) : Answers (LawsPass s) (.next t) := ⟨t, rfl, h⟩

variable {s t : State}

/-- The emission unit is written, and the guard is not. -/
theorem of_unit (unit : EmissionUnitLaw s.emission → EmissionUnitLaw t.emission)
    (estop : EstopLatched s → EstopLatched t) (guard : t.guard = s.guard) : LawsPass s t where
  emission law := (emissionLaw_iff t).mpr (((emissionLaw_iff s).mp law).imp unit estop)
  guard law := guard ▸ law

/-- The emission unit is written but for the latch, and nothing else of the two units is. -/
theorem of_latch (unit : EmissionUnitLaw s.emission → EmissionUnitLaw t.emission)
    (latch : t.emission.latch = s.emission.latch) (estop : t.outside.estop = s.outside.estop)
    (guard : t.guard = s.guard) : LawsPass s t :=
  .of_unit unit (.of_eq latch estop) guard

/-- The guard is written, and the emission unit is not. -/
theorem of_guard (emission : t.emission = s.emission) (estop : t.outside.estop = s.outside.estop)
    (guard : GuardLaw s.guard → GuardLaw t.guard) : LawsPass s t where
  emission law := by
    obtain ⟨unit, latched⟩ := (emissionLaw_iff s).mp law
    exact (emissionLaw_iff t).mpr ⟨emission ▸ unit, latched.of_eq (congrArg _ emission) estop⟩
  guard := guard

/-- Neither unit is written, and the pin stays. -/
theorem of_eq (emission : t.emission = s.emission) (estop : t.outside.estop = s.outside.estop)
    (guard : t.guard = s.guard) : LawsPass s t :=
  .of_guard emission estop fun law => guard ▸ law

end LawsPass

/-- A sample has no part in the two units (R28 to R43). -/
theorem SampleFrame.lawsPass {s t : State} (h : SampleFrame s t) : LawsPass s t :=
  .of_eq h.emission (congrArg Outside.estop h.outside) h.guard

/-! ### The shared operations -/

theorem State.respond_estop (s : State) (status : Status) (data : List Byte) :
    (s.respond status data).outside.estop = s.outside.estop := by
  unfold State.respond
  split <;> rfl

theorem State.respond_lawsPass (s : State) (status : Status) (data : List Byte) :
    LawsPass s (s.respond status data) :=
  .of_eq (s.respond_emission ..) (s.respond_estop ..) (s.respond_guard ..)

/-- A command passes the laws on when its action does (R165). -/
theorem State.carryOut_lawsPass (s : State) (code : Byte) (fits : List Byte → Bool) (exempt : Bool)
    (act : List Byte → State → Reply) (acted : ∀ operands, LawsPass s (act operands s).after) :
    Answers (LawsPass s) (.next (s.carryOut code fits exempt act)) :=
  State.carryOut_keepsProp (.refl s) (fun t status data h => h.trans (t.respond_lawsPass status data))
    fun operands _ => acted operands

theorem State.changeGuard_lawsPass (s : State) (new : GuardState) : LawsPass s (s.changeGuard new) :=
  .of_guard rfl rfl fun law => guardLaw_setState law new

theorem State.fopenArrival_lawsPass (s : State) : LawsPass s s.fopenArrival := by
  unfold State.fopenArrival
  split
  · exact .of_guard rfl rfl fun law => restartTimer_guardLaw law.codes
  · exact s.changeGuard_lawsPass _
  · exact s.changeGuard_lawsPass _

/-- Once ESTOP has acted, the law holds whatever the level of the pin (R149). -/
theorem State.estopActs_emissionLaw {s : State} (law : EmissionUnitLaw s.emission) : EmissionLaw s.estopActs := by
  refine (emissionLaw_iff _).mpr ⟨?_, fun estop => ?_⟩
  · unfold State.estopActs
    split
    · exact law.stop
    · exact law
  · have pin : s.outside.estop = true := by
      rw [s.estopActs_eq] at estop
      exact estop
    exact State.estopActs_latch pin

theorem State.estopActs_guard (s : State) : s.estopActs.guard = s.guard := by
  rw [s.estopActs_eq]

/-! ### Layouts, maps and tables: neither unit is written -/

theorem State.editReply_lawsPass (s : State) (n : Byte) (needs : Bool) (change : Layout → Option Layout) :
    LawsPass s (s.editReply n needs change).after := by
  unfold State.editReply
  split <;> exact .of_eq rfl rfl rfl

theorem editActions_lawsPass {act : List Byte → State → Reply}
    (edit : act ∈ [slotClearAction, slotZonesAction, entryPutAction, entryDropAction]) (operands : List Byte)
    (s : State) : LawsPass s (act operands s).after := by
  simp only [List.mem_cons, List.not_mem_nil, or_false] at edit
  obtain rfl | rfl | rfl | rfl := edit
  · unfold slotClearAction
    split
    · exact s.editReply_lawsPass ..
    · exact .refl s
  · unfold slotZonesAction
    split
    · exact s.editReply_lawsPass ..
    · exact .refl s
  · unfold entryPutAction
    split
    · exact s.editReply_lawsPass ..
    · exact .refl s
  · unfold entryDropAction
    split
    · exact s.editReply_lawsPass ..
    · exact .refl s

theorem slotCheckAction_lawsPass (operands : List Byte) (s : State) :
    LawsPass s (slotCheckAction operands s).after := by
  unfold slotCheckAction
  split
  · split
    · dsimp only
      split
      · exact .refl s
      · exact .refl s
      · split <;> exact .of_eq rfl rfl rfl
    · exact .refl s
  · exact .refl s

theorem slotReadAction_lawsPass (operands : List Byte) (s : State) :
    LawsPass s (slotReadAction operands s).after := by
  unfold slotReadAction
  split
  · split
    · dsimp only
      split
      · exact .refl s
      · split <;> exact .refl s
    · exact .refl s
  · exact .refl s

theorem State.offerToMap_lawsPass {s t : State} {p : Posture} {n : Nat} (ok : s.offerToMap p n = .ok t) :
    LawsPass s t := by
  unfold State.offerToMap at ok
  split at ok
  · split at ok <;> cases ok
    exact .of_eq rfl rfl rfl
  · cases ok

theorem mapSetAction_lawsPass (operands : List Byte) (s : State) : LawsPass s (mapSetAction operands s).after := by
  unfold mapSetAction
  split
  · split
    · exact .refl s
    · split
      · exact .refl s
      · next ok => exact State.offerToMap_lawsPass ok
  · exact .refl s

theorem faceSetAction_lawsPass (operands : List Byte) (s : State) : LawsPass s (faceSetAction operands s).after := by
  unfold faceSetAction
  split
  · split
    · exact .refl s
    · dsimp only
      split <;> exact .of_eq rfl rfl rfl
  · exact .refl s

theorem gainLoadAction_lawsPass (operands : List Byte) (s : State) : LawsPass s (gainLoadAction operands s).after := by
  unfold gainLoadAction
  split
  · split
    · exact .refl s
    · dsimp only
      split <;> exact .of_eq rfl rfl rfl
  · exact .refl s

/-- The actions that store settings of other units, and those of the report queue. -/
theorem settingActions_lawsPass {act : List Byte → State → Reply}
    (setting : act ∈ [angleSetAction, angleCalAction, gainPointsAction, profileSetAction, reportReadAction,
      attnSetAction]) (operands : List Byte) (s : State) : LawsPass s (act operands s).after := by
  simp only [List.mem_cons, List.not_mem_nil, or_false] at setting
  obtain rfl | rfl | rfl | rfl | rfl | rfl := setting
  · unfold angleSetAction
    split <;> exact .of_eq rfl rfl rfl
  · unfold angleCalAction
    split
    · split <;> exact .of_eq rfl rfl rfl
    · exact .refl s
  · unfold gainPointsAction
    split
    · split <;> exact .of_eq rfl rfl rfl
    · exact .refl s
  · unfold profileSetAction
    split
    · split <;> exact .of_eq rfl rfl rfl
    · exact .refl s
  · unfold reportReadAction
    split
    · split <;> exact .of_eq rfl rfl rfl
    · exact .refl s
  · unfold attnSetAction
    split
    · split <;> exact .of_eq rfl rfl rfl
    · exact .refl s

/-! ### The commands that write the two units (R146 to R151, R155 to R160) -/

theorem emitSetAction_lawsPass (operands : List Byte) (s : State) : LawsPass s (emitSetAction operands s).after := by
  unfold emitSetAction
  split
  · split
    · exact .refl s
    · exact .of_latch (fun law => law.setLevel _ _) rfl rfl rfl
  · exact .refl s

theorem emitPeriodAction_lawsPass (operands : List Byte) (s : State) :
    LawsPass s (emitPeriodAction operands s).after := by
  unfold emitPeriodAction
  split
  · exact .of_latch (fun law => law.setPendingPeriod _) rfl rfl rfl
  · exact .refl s

theorem emitFadeAction_lawsPass (operands : List Byte) (s : State) : LawsPass s (emitFadeAction operands s).after := by
  unfold emitFadeAction
  split
  · exact .of_latch (fun law => law.setFadeStep _) rfl rfl rfl
  · exact .refl s

theorem guardSetAction_lawsPass (operands : List Byte) (s : State) : LawsPass s (guardSetAction operands s).after := by
  unfold guardSetAction
  split
  · exact .of_guard rfl rfl fun _ => setCodes_guardLaw ..
  · exact .refl s

/-- FAULT_CLEAR keeps the latch that ESTOP holds set. -/
theorem faultClearAction_lawsPass (operands : List Byte) (s : State) :
    LawsPass s (faultClearAction operands s).after := by
  refine .of_unit (fun law => law.setLatch fun both => ?_) (fun latched estop => ?_) rfl
  · exact (Bool.and_eq_true_iff.mp both).1
  · exact Bool.and_eq_true_iff.mpr ⟨latched estop, estop⟩

theorem execPeriodEnd_lawsPass (s : State) : Answers (LawsPass s) (exec .periodEnd s) := by
  rw [exec_periodEnd]
  exact LawsPass.answers (.of_latch EmissionUnitLaw.endPeriod rfl rfl rfl)

theorem execEstopAsserted_lawsPass (s : State) : Answers (LawsPass s) (execEstopAsserted s) := by
  refine LawsPass.answers ⟨fun law => ?_, fun law => ?_⟩
  · exact State.estopActs_emissionLaw ((emissionLaw_iff s).mp law).1
  · rw [State.estopActs_guard]
    exact law

theorem execEstopReleased_lawsPass (s : State) : Answers (LawsPass s) (execEstopReleased s) :=
  LawsPass.answers (.of_unit id (fun _ => nofun) rfl)

theorem execTick_lawsPass (s : State) : Answers (LawsPass s) (execTick s) :=
  LawsPass.answers (.of_guard rfl rfl fun law => guardLaw_advance law _)

theorem execGuardTimerExpiry_lawsPass (s : State) : Answers (LawsPass s) (execGuardTimerExpiry s) := by
  unfold execGuardTimerExpiry
  split
  · split
    · exact (s.changeGuard_lawsPass _).answers
    · exact (s.changeGuard_lawsPass _).answers
    · exact (LawsPass.refl s).answers
  · exact (LawsPass.refl s).answers

/-! ### Resets (R80, R154) -/

/-- The reset values obey both laws, and ESTOP acts on them at once. -/
theorem State.resetPart_lawsPass (s u : State) : LawsPass s u.resetPart := by
  rw [u.resetPart_eq]
  refine ⟨fun _ => State.estopActs_emissionLaw ?_, fun _ => ?_⟩
  · exact ((emissionLaw_iff _).mp reset_emissionLaw).1
  · rw [State.estopActs_guard]
    exact reset_guardLaw

theorem execSoftReset_lawsPass (s : State) : Answers (LawsPass s) (execSoftReset s) := by
  unfold execSoftReset
  split
  · exact (LawsPass.refl s).answers
  · exact (s.respond_lawsPass ..).answers
  · exact (s.resetPart_lawsPass _).answers

/-! ### Packets (R64 to R77, R164) -/

theorem execCtrl_lawsPass (first code count : Byte) (operands : List Byte) (s : State) :
    Answers (LawsPass s) (execCtrl first code count operands s) := by
  unfold execCtrl
  split <;> exact LawsPass.answers (.of_eq rfl rfl rfl)

theorem execUnknownCommand_lawsPass (s : State) : Answers (LawsPass s) (execUnknownCommand s) := by
  unfold execUnknownCommand
  split
  · split
    · exact (LawsPass.refl s).answers
    · exact (s.respond_lawsPass ..).answers
  · exact (LawsPass.refl s).answers

theorem State.offerIntake_lawsPass (s : State) : LawsPass s s.offerIntake := by
  unfold State.offerIntake
  dsimp only
  split <;> exact .of_eq rfl rfl rfl

theorem State.truncateFrame_lawsPass (s : State) : LawsPass s s.truncateFrame := by
  unfold State.truncateFrame
  split
  · exact .refl s
  · exact .after (State.offerIntake_lawsPass _) (.of_eq rfl rfl rfl)
  · exact .after (State.offerIntake_lawsPass _) (.of_eq rfl rfl rfl)

theorem execFopen_lawsPass (frame width height : Word16) (s : State) :
    Answers (LawsPass s) (execFopen frame width height s) :=
  LawsPass.answers (.after (State.fopenArrival_lawsPass _) (s.truncateFrame_lawsPass.trans (.of_eq rfl rfl rfl)))

theorem execLine_lawsPass (row : Word16) (payload : List Pixel) (s : State) :
    Answers (LawsPass s) (execLine row payload s) := by
  unfold execLine State.strayLine
  split
  · split <;> exact LawsPass.answers (.of_eq rfl rfl rfl)
  · exact LawsPass.answers (.of_eq rfl rfl rfl)
  · exact LawsPass.answers (.of_eq rfl rfl rfl)

theorem execFclose_lawsPass (linesSent : Word16) (s : State) : Answers (LawsPass s) (execFclose linesSent s) := by
  unfold execFclose
  dsimp only
  split
  · exact (LawsPass.refl s).answers
  · exact LawsPass.answers (.after (State.offerIntake_lawsPass _) (.of_eq rfl rfl rfl))
  · exact LawsPass.answers (.after (State.offerIntake_lawsPass _) (.of_eq rfl rfl rfl))

/-! ### The image (R180 to R185) -/

theorem State.orKeep_lawsPass (s : State) (o : Option State) (h : ∀ t, o = some t → LawsPass s t) :
    LawsPass s (s.orKeep o).2 := by
  cases o with
  | none => exact .refl s
  | some t => exact h t rfl

theorem State.applyAngle_lawsPass {s t : State} {body : List Byte} (h : s.applyAngle body = some t) :
    LawsPass s t := by
  unfold State.applyAngle at h
  split at h
  · obtain ⟨_, -, rfl⟩ := Option.map_eq_some_iff.mp h
    exact .of_eq rfl rfl rfl
  · cases h

theorem State.setGain_lawsPass (s : State) (g : GainUnit) : LawsPass s { s with gain := g } := .of_eq rfl rfl rfl

theorem State.applyGain_lawsPass {s t : State} {body : List Byte} (h : s.applyGain body = some t) : LawsPass s t := by
  unfold State.applyGain at h
  dsimp only at h
  split at h <;> cases h
  exact s.setGain_lawsPass _

/-- EMIT stores what EMIT_SET for each zone, EMIT_PERIOD and EMIT_FADE store (R152). -/
theorem State.applyEmit_lawsPass {s t : State} {body : List Byte} (h : s.applyEmit body = some t) : LawsPass s t := by
  unfold State.applyEmit at h
  split at h <;> cases h
  exact .of_latch (fun law => ((((law.setLevel .front _).setLevel .spine _).setLevel .back _).setPendingPeriod
    _).setFadeStep _) rfl rfl rfl

theorem State.applyGuard_lawsPass {s t : State} {body : List Byte} (h : s.applyGuard body = some t) :
    LawsPass s t := by
  unfold State.applyGuard at h
  split at h <;> cases h
  exact .of_guard rfl rfl fun _ => setCodes_guardLaw ..

theorem State.applyProfile_lawsPass (s : State) (d : Driver) (c w t : Byte) :
    LawsPass s (s.applyProfile d c w t).2 := by
  unfold State.applyProfile
  split <;> exact .of_eq rfl rfl rfl

theorem State.applyProfiles_lawsPass (s : State) (body : List Byte) : LawsPass s (s.applyProfiles body).2 := by
  unfold State.applyProfiles
  split
  · exact ((State.applyProfile_lawsPass ..).trans (State.applyProfile_lawsPass ..)).trans
      (State.applyProfile_lawsPass ..)
  · exact .refl s

theorem State.applyLayout_lawsPass (s : State) (body : List Byte) : LawsPass s (s.applyLayout body).2 := by
  unfold State.applyLayout
  split
  · split
    · exact .refl s
    · split
      · exact .refl s
      · split <;> exact .of_eq rfl rfl rfl
  · exact .refl s

theorem State.applyMapEntry_lawsPass (s : State) (p : Posture) (n : Byte) :
    LawsPass s (s.applyMapEntry p n).2 := by
  unfold State.applyMapEntry
  split
  · next ok => exact State.offerToMap_lawsPass ok
  · exact .refl s

theorem State.applyMap_lawsPass (s : State) (body : List Byte) : LawsPass s (s.applyMap body).2 := by
  unfold State.applyMap
  split
  · exact (((State.applyMapEntry_lawsPass ..).trans (State.applyMapEntry_lawsPass ..)).trans
      (State.applyMapEntry_lawsPass ..)).trans (State.applyMapEntry_lawsPass ..)
  · exact .refl s

/-- Two of the sections write the two units, EMIT and GUARD (R182). -/
theorem State.applySection_lawsPass (s : State) (kind : Byte) (body : List Byte) :
    LawsPass s (s.applySection kind body).2 := by
  unfold State.applySection
  split
  · split
    · exact s.orKeep_lawsPass _ fun _ => State.applyAngle_lawsPass
    · exact s.orKeep_lawsPass _ fun _ => State.applyGain_lawsPass
    · exact s.orKeep_lawsPass _ fun _ => State.applyEmit_lawsPass
    · exact s.orKeep_lawsPass _ fun _ => State.applyGuard_lawsPass
    · exact s.applyProfiles_lawsPass body
    · exact s.applyLayout_lawsPass body
    · exact s.applyMap_lawsPass body
  · exact .refl s

theorem State.loaderTakes_lawsPass (s : State) (bytes : List Byte) : LawsPass s (s.loaderTakes bytes) :=
  State.loaderTakes_induction (P := LawsPass s) (Q := LawsPass s)
    (registers := fun _ _ _ h _ => h.trans (.of_eq rfl rfl rfl))
    (applied := fun t kind body h => h.trans (t.applySection_lawsPass kind body))
    (ended := fun _ _ _ h => h.trans (.of_eq rfl rfl rfl))
    (header := fun _ _ h _ => h.trans (.of_eq rfl rfl rfl))
    (body := fun _ _ _ _ _ _ h _ => h.trans (.of_eq rfl rfl rfl))
    (.refl s) fun _ => .refl s

/-! ### The side bus (R27, R50 to R62) -/

theorem execSampleTimerExpiry_lawsPass (s : State) : Answers (LawsPass s) (execSampleTimerExpiry s) := by
  unfold execSampleTimerExpiry
  dsimp only
  split <;> exact LawsPass.answers (.of_eq rfl rfl rfl)

theorem execTransactionStart_lawsPass (s : State) : Answers (LawsPass s) (execTransactionStart s) := by
  unfold execTransactionStart
  split <;> exact LawsPass.answers (.of_eq rfl rfl rfl)

theorem execArbitrationLost_lawsPass (s : State) : Answers (LawsPass s) (execArbitrationLost s) := by
  unfold execArbitrationLost
  split <;> exact LawsPass.answers (.of_eq rfl rfl rfl)

theorem State.completeRead_lawsPass (s : State) (r : Request) (received : List Byte) (lateLoss : Bool) :
    LawsPass s (s.completeRead r received lateLoss) := by
  unfold State.completeRead
  split <;> exact .of_eq rfl rfl rfl

theorem execSensorReadComplete_lawsPass (first second : Byte) (lateLoss : Bool) (s : State) :
    Answers (LawsPass s) (execSensorReadComplete first second lateLoss s) := by
  unfold execSensorReadComplete
  split
  · exact ((s.completeRead_lawsPass ..).trans (State.goodSample_frame ..).lawsPass).answers
  · exact (LawsPass.refl s).answers

theorem execNvmReadComplete_lawsPass (bytes : List Byte) (lateLoss : Bool) (s : State) :
    Answers (LawsPass s) (execNvmReadComplete bytes lateLoss s) := by
  unfold execNvmReadComplete
  split
  · split
    · exact ((s.completeRead_lawsPass ..).trans (State.loaderTakes_lawsPass ..)).answers
    · exact (LawsPass.refl s).answers
  · exact (LawsPass.refl s).answers

theorem State.abort_lawsPass (s : State) (r : Request) (after : BusAfter) : LawsPass s (s.abort r after) := by
  refine .after (t := s.endTransaction [] after) ?_ (.of_eq rfl rfl rfl)
  cases r with
  | sensor device register => exact (State.failedSample_frame _).lawsPass
  | nvm address count =>
    show LawsPass _ (State.loaderFails _)
    unfold State.loaderFails
    split <;> exact .of_eq rfl rfl rfl

theorem State.breakOff_abort_lawsPass (s : State) (f : Nat → List BusSymbol) (r : Request) (after : BusAfter) :
    LawsPass s ((s.breakOff f).abort r after) :=
  .after (State.abort_lawsPass ..) (.of_eq rfl rfl rfl)

theorem execNackAbort_lawsPass (s : State) : Answers (LawsPass s) (execNackAbort s) := by
  unfold execNackAbort
  split
  · exact (s.breakOff_abort_lawsPass ..).answers
  · exact (LawsPass.refl s).answers

theorem execStretchTimeout_lawsPass (s : State) : Answers (LawsPass s) (execStretchTimeout s) := by
  unfold execStretchTimeout
  split
  · exact (s.breakOff_abort_lawsPass ..).answers
  · exact (LawsPass.refl s).answers

theorem execTotalTimeout_lawsPass (sclHeldLow : Bool) (s : State) :
    Answers (LawsPass s) (execTotalTimeout sclHeldLow s) := by
  unfold execTotalTimeout
  split
  · exact (s.abort_lawsPass ..).answers
  · split <;> exact (s.breakOff_abort_lawsPass ..).answers
  · exact (LawsPass.refl s).answers

/-! ### The mapper, which hands zone modes to the emission unit (R84, R100, R144) -/

/-- The modes of a layout are handed over, and nothing else of the two units changes. -/
theorem LawsPass.of_modes {s t : State} (modes : PerZone ZoneMode) (emission : t.emission = s.emission.takeModes modes)
    (estop : t.outside.estop = s.outside.estop) (guard : t.guard = s.guard) : LawsPass s t :=
  .of_latch (fun law => emission ▸ law.takeModes modes) (by rw [emission]; rfl) estop guard

theorem State.setUpFrame_lawsPass (s : State) (number : Word16) (width height : Nat) :
    LawsPass s (s.setUpFrame number width height) := by
  unfold State.setUpFrame
  dsimp only
  split <;> exact .of_modes s.copyLayout.mapper.copy.modes rfl rfl rfl

theorem execFrameSetUp_lawsPass (s : State) : Answers (LawsPass s) (execFrameSetUp s) := by
  unfold execFrameSetUp
  split
  · exact LawsPass.answers (.after (State.setUpFrame_lawsPass ..) (.of_eq rfl rfl rfl))
  · exact (LawsPass.refl s).answers

theorem State.standaloneApply_lawsPass (s : State) : LawsPass s s.standaloneApply :=
  .of_modes s.copyLayout.mapper.copy.modes rfl rfl rfl

theorem State.layoutNotice_lawsPass (s : State) : LawsPass s s.layoutNotice := by
  unfold State.layoutNotice
  split
  · exact .of_eq rfl rfl rfl
  · exact s.standaloneApply_lawsPass
  · exact s.standaloneApply_lawsPass

theorem State.guardNotice_lawsPass (s : State) (new : GuardState) : LawsPass s (s.guardNotice new) := by
  unfold State.guardNotice
  dsimp only
  split
  · exact .after (State.standaloneApply_lawsPass _) (.of_eq rfl rfl rfl)
  · exact .of_eq rfl rfl rfl

theorem execPostureNotice_lawsPass (s : State) : Answers (LawsPass s) (execPostureNotice s) := by
  unfold execPostureNotice
  split
  · exact LawsPass.answers (.after (State.layoutNotice_lawsPass _) (.of_eq rfl rfl rfl))
  · exact (LawsPass.refl s).answers

theorem execMapSetNotice_lawsPass (s : State) : Answers (LawsPass s) (execMapSetNotice s) := by
  unfold execMapSetNotice
  split
  · exact LawsPass.answers (.after (State.layoutNotice_lawsPass _) (.of_eq rfl rfl rfl))
  · exact (LawsPass.refl s).answers

theorem execGuardStateNotice_lawsPass (s : State) : Answers (LawsPass s) (execGuardStateNotice s) := by
  unfold execGuardStateNotice
  split
  · exact LawsPass.answers (.after (State.guardNotice_lawsPass ..) (.of_eq rfl rfl rfl))
  · exact (LawsPass.refl s).answers

theorem execDropNotice_lawsPass (s : State) : Answers (LawsPass s) (execDropNotice s) := by
  unfold execDropNotice
  split <;> exact LawsPass.answers (.of_eq rfl rfl rfl)

/-! ### Runs (R88 to R96, R121 to R132): neither unit is written -/

theorem State.examineLine_lawsPass (s : State) (f : FrameInHand) (l : LineInHand) :
    LawsPass s (s.examineLine f l) := by
  obtain ⟨-, -, -, emission, guard, -, -, -, outside, -⟩ := examineEntries_frame s.mapper.copy.modes f l.slot l.row
    (s.mapper.copy.entries.drop l.next) l.next s
  exact .of_eq emission (congrArg Outside.estop outside) guard

theorem execLineItem_lawsPass (s : State) : Answers (LawsPass s) (execLineItem s) := by
  unfold execLineItem
  split
  · exact LawsPass.answers (.after (State.examineLine_lawsPass ..) (.of_eq rfl rfl rfl))
  · exact (LawsPass.refl s).answers

theorem execFrameEnd_lawsPass (s : State) : Answers (LawsPass s) (execFrameEnd s) := by
  unfold execFrameEnd
  split <;> exact LawsPass.answers (.of_eq rfl rfl rfl)

theorem execFillSweepRun_lawsPass (s : State) : Answers (LawsPass s) (execFillSweepRun s) := by
  unfold execFillSweepRun
  split
  · split
    · exact (LawsPass.refl s).answers
    · dsimp only
      split <;> exact LawsPass.answers (.of_eq rfl rfl rfl)
  · exact (LawsPass.refl s).answers

theorem execWaitingRunPlaced_lawsPass (s : State) : Answers (LawsPass s) (execWaitingRunPlaced s) := by
  unfold execWaitingRunPlaced
  split
  · exact (LawsPass.refl s).answers
  · split
    · dsimp only
      split
      · exact LawsPass.answers (.of_eq rfl rfl rfl)
      · split
        · exact LawsPass.answers (.after (State.examineLine_lawsPass ..) (.of_eq rfl rfl rfl))
        · exact LawsPass.answers (.of_eq rfl rfl rfl)
    · exact (LawsPass.refl s).answers

theorem execGrant_lawsPass (s : State) : Answers (LawsPass s) (execGrant s) := by
  unfold execGrant
  split
  · split <;> exact LawsPass.answers (.of_eq rfl rfl rfl)
  · exact (LawsPass.refl s).answers

theorem execTurnaroundDone_lawsPass (s : State) : Answers (LawsPass s) (execTurnaroundDone s) := by
  unfold execTurnaroundDone
  split <;> exact LawsPass.answers (.of_eq rfl rfl rfl)

theorem execRetryDone_lawsPass (s : State) : Answers (LawsPass s) (execRetryDone s) := by
  unfold execRetryDone
  split <;> exact LawsPass.answers (.of_eq rfl rfl rfl)

theorem execWindowAccepted_lawsPass (s : State) : Answers (LawsPass s) (execWindowAccepted s) := by
  unfold execWindowAccepted
  split <;> exact LawsPass.answers (.of_eq rfl rfl rfl)

theorem execReject_lawsPass (s : State) : Answers (LawsPass s) (execReject s) := by
  unfold execReject State.rejectRun
  split
  · split
    · dsimp only
      split <;> exact LawsPass.answers (.of_eq rfl rfl rfl)
    · exact (LawsPass.refl s).answers
  · exact (LawsPass.refl s).answers

theorem execHoldLimit_lawsPass (pairsDone : Nat) (s : State) : Answers (LawsPass s) (execHoldLimit pairsDone s) := by
  unfold execHoldLimit
  dsimp only
  split
  · split <;> exact LawsPass.answers (.of_eq rfl rfl rfl)
  · split <;> exact LawsPass.answers (.of_eq rfl rfl rfl)
  · exact (LawsPass.refl s).answers

theorem execRunFinished_lawsPass (s : State) : Answers (LawsPass s) (execRunFinished s) := by
  unfold execRunFinished
  split <;> exact LawsPass.answers (.of_eq rfl rfl rfl)

/-! ### The commands, one by one -/

theorem exec_lawsPass (c : Instr) (s : State) : Answers (LawsPass s) (exec c s) := by
  cases c with
  | reset => exact (s.resetPart_lawsPass s).answers
  | softReset => exact execSoftReset_lawsPass s
  | ctrl first code count operands => exact execCtrl_lawsPass first code count operands s
  | unknownCommand => exact execUnknownCommand_lawsPass s
  | slotClear => exact s.carryOut_lawsPass _ _ _ _ fun _ => editActions_lawsPass (by simp) _ s
  | slotZones => exact s.carryOut_lawsPass _ _ _ _ fun _ => editActions_lawsPass (by simp) _ s
  | entryPut => exact s.carryOut_lawsPass _ _ _ _ fun _ => editActions_lawsPass (by simp) _ s
  | entryDrop => exact s.carryOut_lawsPass _ _ _ _ fun _ => editActions_lawsPass (by simp) _ s
  | slotCheck => exact s.carryOut_lawsPass _ _ _ _ fun _ => slotCheckAction_lawsPass _ s
  | slotRead => exact s.carryOut_lawsPass _ _ _ _ fun _ => slotReadAction_lawsPass _ s
  | mapSet => exact s.carryOut_lawsPass _ _ _ _ fun _ => mapSetAction_lawsPass _ s
  | faceSet => exact s.carryOut_lawsPass _ _ _ _ fun _ => faceSetAction_lawsPass _ s
  | gainLoad => exact s.carryOut_lawsPass _ _ _ _ fun _ => gainLoadAction_lawsPass _ s
  | angleSet => exact s.carryOut_lawsPass _ _ _ _ fun _ => settingActions_lawsPass (by simp) _ s
  | angleCal => exact s.carryOut_lawsPass _ _ _ _ fun _ => settingActions_lawsPass (by simp) _ s
  | gainPoints => exact s.carryOut_lawsPass _ _ _ _ fun _ => settingActions_lawsPass (by simp) _ s
  | profileSet => exact s.carryOut_lawsPass _ _ _ _ fun _ => settingActions_lawsPass (by simp) _ s
  | reportRead => exact s.carryOut_lawsPass _ _ _ _ fun _ => settingActions_lawsPass (by simp) _ s
  | attnSet => exact s.carryOut_lawsPass _ _ _ _ fun _ => settingActions_lawsPass (by simp) _ s
  | statusRead | imageReload => exact s.carryOut_lawsPass _ _ _ _ fun _ => .of_eq rfl rfl rfl
  | emitSet => exact s.carryOut_lawsPass _ _ _ _ fun _ => emitSetAction_lawsPass _ s
  | emitPeriod => exact s.carryOut_lawsPass _ _ _ _ fun _ => emitPeriodAction_lawsPass _ s
  | emitFade => exact s.carryOut_lawsPass _ _ _ _ fun _ => emitFadeAction_lawsPass _ s
  | guardSet => exact s.carryOut_lawsPass _ _ _ _ fun _ => guardSetAction_lawsPass _ s
  | faultClear => exact s.carryOut_lawsPass _ _ _ _ fun _ => faultClearAction_lawsPass _ s
  | fopen frame width height => exact execFopen_lawsPass frame width height s
  | line row payload => exact execLine_lawsPass row payload s
  | fclose linesSent => exact execFclose_lawsPass linesSent s
  | sampleTimerExpiry => exact execSampleTimerExpiry_lawsPass s
  | transactionStart => exact execTransactionStart_lawsPass s
  | arbitrationLost => exact execArbitrationLost_lawsPass s
  | sensorReadComplete first second lateLoss => exact execSensorReadComplete_lawsPass first second lateLoss s
  | nvmReadComplete bytes lateLoss => exact execNvmReadComplete_lawsPass bytes lateLoss s
  | nackAbort => exact execNackAbort_lawsPass s
  | stretchTimeout => exact execStretchTimeout_lawsPass s
  | totalTimeout sclHeldLow => exact execTotalTimeout_lawsPass sclHeldLow s
  | frameSetUp => exact execFrameSetUp_lawsPass s
  | lineItem => exact execLineItem_lawsPass s
  | waitingRunPlaced => exact execWaitingRunPlaced_lawsPass s
  | frameEnd => exact execFrameEnd_lawsPass s
  | fillSweepRun => exact execFillSweepRun_lawsPass s
  | postureNotice => exact execPostureNotice_lawsPass s
  | mapSetNotice => exact execMapSetNotice_lawsPass s
  | guardStateNotice => exact execGuardStateNotice_lawsPass s
  | dropNotice => exact execDropNotice_lawsPass s
  | grant => exact execGrant_lawsPass s
  | turnaroundDone => exact execTurnaroundDone_lawsPass s
  | windowAccepted => exact execWindowAccepted_lawsPass s
  | reject => exact execReject_lawsPass s
  | retryDone => exact execRetryDone_lawsPass s
  | holdLimit pairsDone => exact execHoldLimit_lawsPass pairsDone s
  | runFinished => exact execRunFinished_lawsPass s
  | periodEnd => exact execPeriodEnd_lawsPass s
  | estopAsserted => exact execEstopAsserted_lawsPass s
  | estopReleased => exact execEstopReleased_lawsPass s
  | tick => exact execTick_lawsPass s
  | guardTimerExpiry => exact execGuardTimerExpiry_lawsPass s
  | otherPacket | busStartSeen | busStopSeen | busIdleTimeout | busLineLow | attnPulseEnd =>
    exact LawsPass.answers (.of_eq rfl rfl rfl)

/-- Settles O57: what has passed the laws on up to a state, the next idle step and every command pass on. -/
theorem everyStepKeepsEmissionAndGuard : Obligations.EveryStepKeepsEmissionAndGuard := by
  intro s t hstep
  have pass : LawsPass s t := step_keeps (P := LawsPass s)
    (fun u h => h.trans (.of_latch (fun law => law.timePasses u.freeIndex) rfl rfl rfl))
    (fun _ _ h => h.trans (.of_eq rfl rfl rfl))
    (fun c u h => (exec_lawsPass c u).mono fun _ => h.trans) (.refl s) hstep
  exact ⟨pass.emission, pass.guard⟩

end Sys2Proof.Machine
end

section
/-! The tick, the guard timer and the guard's changes of state, and GUARD_SET: what each event writes (R155 to R160). -/

namespace Sys2Proof.Machine

open Sys2Proof.Safety

/-! ### The timer at a tick and at an expiry (R155, R156, R158) -/

theorem GuardTimer.advance_of_lt {t : GuardTimer} (h : t.count < t.limit) : t.advance = ⟨t.count + 1, t.limit⟩ :=
  congrArg (GuardTimer.mk · t.limit) (Nat.min_eq_left h)

/-- A timer at its limit stays there (log 28). -/
theorem GuardTimer.advance_of_eq {t : GuardTimer} (h : t.count = t.limit) : t.advance = t := by
  have stays : min (t.count + 1) t.limit = t.count := by omega
  exact congrArg (GuardTimer.mk · t.limit) stays

theorem exec_tick {s : State} {timer : Option GuardTimer} (h : s.guard.timer.map GuardTimer.advance = timer) :
    exec .tick s = .next { s with guard := { s.guard with tick := s.guard.tick + 1, timer := timer } } := by
  subst h
  rfl

theorem LinkGuard.expired_iff (g : LinkGuard) : g.expired = true ↔ ∃ t, g.timer = some t ∧ t.limit ≤ t.count := by
  unfold LinkGuard.expired
  split <;> simp [*]

section

variable {s : State}

/-- An expiry that is not due changes nothing (log 2). -/
theorem execGuardTimerExpiry_of_not_expired (h : ¬ s.guard.expired = true) : execGuardTimerExpiry s = .next s :=
  if_neg h

theorem execGuardTimerExpiry_live (h : s.guard.expired = true) (live : s.guard.state = .live) :
    execGuardTimerExpiry s = .next (s.changeGuard .hold) := by
  simp only [execGuardTimerExpiry, h, if_true, live]

theorem execGuardTimerExpiry_hold (h : s.guard.expired = true) (hold : s.guard.state = .hold) :
    execGuardTimerExpiry s = .next (s.changeGuard .blank) := by
  simp only [execGuardTimerExpiry, h, if_true, hold]

/-! ### FOPEN arrivals (R157) -/

theorem State.fopenArrival_live (live : s.guard.state = .live) :
    s.fopenArrival =
      { s with guard := { s.guard with timer := freshTimer .live s.guard.holdCode s.guard.blankCode } } := by
  simp only [State.fopenArrival, LinkGuard.restartTimer, live]

theorem State.fopenArrival_of_ne_live (h : s.guard.state ≠ .live) : s.fopenArrival = s.changeGuard .live := by
  unfold State.fopenArrival
  split
  · next live => exact absurd live h
  · rfl
  · rfl

end

/-! ### GUARD_SET (R160) -/

/-- A blank code of 0 is stored, and answered, as 1. -/
theorem byteOf_max_toNat_one (b : Byte) : byteOf (max b.toNat 1) = if b = 0 then 1 else b := by
  rw [max_toNat_one]
  split
  · rfl
  · exact byteOf_toNat b

theorem guardSetAction_stored (h b : Byte) (s : State) :
    guardSetAction [h, b] s =
      ⟨.ok, [h, if b = 0 then 1 else b], { s with guard := s.guard.setCodes h.toNat b.toNat }⟩ := by
  have data : [byteOf h.toNat, byteOf (max b.toNat 1)] = [h, if b = 0 then 1 else b] := by
    rw [byteOf_toNat, byteOf_max_toNat_one]
  exact congrArg (Reply.mk .ok · _) data

/-- Settles O58: by whether the timer runs and stands at its limit, and by the guard's state. -/
theorem guardAndTick : Obligations.GuardAndTick := by
  intro s changed holdTimer
  refine ⟨fun stopped => ?stopped, fun timer runs below => ?below, fun timer runs atLimit => ?atLimit,
    fun early => ?early, fun timer runs reached => ?due, State.fopenArrival_live, State.fopenArrival_of_ne_live,
    fun p rest h b asked idle => ?guardSet⟩
  case stopped => exact exec_tick (by rw [stopped, Option.map_none])
  case below => exact exec_tick (by rw [runs, Option.map_some, GuardTimer.advance_of_lt below])
  case atLimit => exact exec_tick (by rw [runs, Option.map_some, GuardTimer.advance_of_eq atLimit])
  case early =>
    refine execGuardTimerExpiry_of_not_expired fun expired => ?_
    obtain ⟨timer, runs, reached⟩ := s.guard.expired_iff.mp expired
    exact absurd (early timer runs) (Nat.not_lt.mpr reached)
  case due =>
    have expired : s.guard.expired = true := s.guard.expired_iff.mpr ⟨timer, runs, reached⟩
    exact ⟨execGuardTimerExpiry_live expired, execGuardTimerExpiry_hold expired⟩
  case guardSet =>
    intro blank
    refine (congrArg Host.Outcome.next
      (carryOut_of_asks asked rfl (.inl idle) (guardSetAction_stored h b s) rfl)).trans ?_
    have hblank : max b.toNat 1 = blank := max_toNat_one b
    cases state : s.guard.state <;>
      simp only [LinkGuard.setCodes, LinkGuard.restartTimer, freshTimer, holdLimit, blankLimit, state, hblank,
        holdTimer]

end Sys2Proof.Machine
end

section
/-! The first three tests of every packet, and what STATUS_READ returns (R165 to R168). -/

namespace Sys2Proof.Machine

open Sys2Proof.Safety

/-! ### The three tests (R165, R167) -/

theorem listedCodes_eq : listedCodes = commandSummary.map CommandRow.code := rfl

section

variable {s : State} {p : Packet} {rest : List Packet}

theorem State.respond_of_head (head : s.control.queue = p :: rest) (status : Status) (data : List Byte) :
    s.respond status data = answered s p rest status data := by
  simp only [State.respond, head, answered]

/-- A packet that comes to the head with a code of no row is answered UNKNOWN (R165, test 1). -/
theorem exec_unknownCommand_of_unlisted (head : s.control.queue = p :: rest)
    (unlisted : ∀ row ∈ commandSummary, row.code ≠ p.code) :
    exec .unknownCommand s = .next (answered s p rest .unknown []) := by
  have absent : p.code ∉ listedCodes := by
    rw [listedCodes_eq, List.mem_map]
    rintro ⟨row, mem, same⟩
    exact unlisted row mem same
  simp only [exec, execUnknownCommand, head, if_neg absent, State.respond_of_head head]

variable {code : Byte} {fits : List Byte → Bool}

/-- Test 2 comes before test 3: it fails whether or not the loader runs. -/
theorem State.turn_length (head : s.control.queue = p :: rest) (codeIs : p.code = code)
    (misfit : ¬ (p.count.toNat = p.operands.length ∧ fits p.operands = true)) (exempt : Bool) :
    s.turn code fits exempt = .refused .length := by
  simp only [State.turn, head, codeIs, ne_eq, not_true, if_false, if_pos misfit]

theorem State.turn_busy (head : s.control.queue = p :: rest) (codeIs : p.code = code)
    (fit : p.count.toNat = p.operands.length ∧ fits p.operands = true) (running : s.loader.running = true) :
    s.turn code fits false = .refused .busy := by
  simp only [State.turn, head, codeIs, fit, running, ne_eq, not_true, if_false, and_self, if_true]

end

/-- The command of a row makes tests 2 and 3 with the row's byte count and exemption, and a packet that fails one of them
gets its RESP and nothing else. -/
def MakesTests (row : CommandRow) : Prop :=
  ∀ (s : State) (status : Status), s.turn row.code row.fits row.exempt = .refused status →
    exec row.command s = .next (s.respond status [])

theorem makesTests_of_carryOut {row : CommandRow} (act : List Byte → State → Reply)
    (carried : ∀ s, exec row.command s = .next (s.carryOut row.code row.fits row.exempt act)) : MakesTests row := by
  intro s status refused
  simp only [carried, State.carryOut, refused]

/-- SOFT_RESET makes the same tests, outside `State.carryOut`. -/
theorem softReset_makesTests : MakesTests ⟨.softReset, 0x71, bytesAre 0, false⟩ := by
  intro s status refused
  have refused : s.turn 0x71 (lengthIs 0) false = .refused status := refused
  simp only [exec, execSoftReset, refused]

/-- The two ways to say which byte counts fit GAIN_LOAD. -/
theorem gainBytes_eq : gainBytes = gainLoadFits := by
  funext operands
  match operands with
  | [] | [_] | [_, _] => rfl
  | _ :: _ :: _ :: values =>
    refine decide_eq_decide.mpr ?_
    simp only [List.length_cons]
    omega

theorem gainLoad_makesTests : MakesTests ⟨.gainLoad, 0x20, gainBytes, false⟩ :=
  gainBytes_eq ▸ makesTests_of_carryOut gainLoadAction fun _ => rfl

/-- Every row of the command summary, in its order. -/
theorem commandSummary_makesTests : ∀ row ∈ commandSummary, MakesTests row := by
  have carried := @makesTests_of_carryOut
  simp only [commandSummary, List.forall_mem_cons]
  exact ⟨carried slotClearAction fun _ => rfl, carried slotZonesAction fun _ => rfl,
    carried entryPutAction fun _ => rfl, carried entryDropAction fun _ => rfl,
    carried slotCheckAction fun _ => rfl, carried slotReadAction fun _ => rfl,
    carried mapSetAction fun _ => rfl, carried faceSetAction fun _ => rfl,
    carried angleSetAction fun _ => rfl, carried angleCalAction fun _ => rfl,
    gainLoad_makesTests, carried gainPointsAction fun _ => rfl,
    carried profileSetAction fun _ => rfl, carried emitSetAction fun _ => rfl,
    carried emitPeriodAction fun _ => rfl, carried emitFadeAction fun _ => rfl,
    carried guardSetAction fun _ => rfl, carried reportReadAction fun _ => rfl,
    carried attnSetAction fun _ => rfl, carried statusReadAction fun _ => rfl,
    softReset_makesTests, carried faultClearAction fun _ => rfl,
    carried imageReloadAction fun _ => rfl, List.forall_mem_nil _⟩

/-- Settles O6: the code is in no row, or the row's command makes the other two tests. -/
theorem commandTests : Obligations.CommandTests := by
  refine ⟨fun s p rest head unlisted => exec_unknownCommand_of_unlisted head unlisted,
    fun row mem s p rest head codeIs => ⟨fun misfit => ?length, fun count fit running notExempt => ?busy⟩⟩
  case length =>
    rw [commandSummary_makesTests row mem s .length (State.turn_length head codeIs misfit row.exempt),
      State.respond_of_head head]
  case busy =>
    have refused : s.turn row.code row.fits row.exempt = .refused .busy :=
      notExempt ▸ State.turn_busy head codeIs ⟨count, fit⟩ running
    rw [commandSummary_makesTests row mem s .busy refused, State.respond_of_head head]

/-! ### STATUS_READ (R168) -/

/-- The four bytes of the tick, each taken from the tick itself. -/
theorem tickBytes_eq (t : BitVec 32) :
    tickBytes t = [byteOf (t.toNat / 16777216), byteOf (t.toNat / 65536), byteOf (t.toNat / 256), byteOf t.toNat] := by
  simp only [tickBytes, wordBytes, Nat.div_div_eq_div_mul, Nat.reduceMul, List.cons_append, List.nil_append]

/-- Settles O7: the picture is the model's, byte by byte, with the tick's bytes written out. -/
theorem statusReadPicture : Obligations.StatusReadPicture := by
  refine ⟨fun s p rest asked => congrArg Host.Outcome.next (carryOut_of_asks asked rfl (.inr rfl) ?_ rfl), rfl⟩
  simp only [statusReadAction, Reply.done, State.statusBytes, tickBytes_eq]
  rfl

end Sys2Proof.Machine
end

section
/-! The report queue: admission, the bytes of the records, draining, and the ATTN line (R172 to R178). -/

namespace Sys2Proof.Machine

open Sys2Proof.Safety

/-! ### Offers (R173, R174, R178) -/

theorem Reports.offer_admitted {q : Reports} {b : ReportBody} (fits : b.size ≤ 512 - q.occupancy)
    (tick : BitVec 32) :
    q.offer tick b =
      { q with
        records := q.records ++ [⟨b, q.lostPending, BitVec.ofNat 16 tick.toNat⟩], lostPending := false
        pulse := if q.attnMode = .pulse ∧ q.attnMask.getLsbD b.kind.code = true then some 1000 else q.pulse } := by
  rw [BitVec.ofNat_toNat]
  exact if_pos fits

theorem Reports.offer_lost {q : Reports} {b : ReportBody} (full : 512 - q.occupancy < b.size) (tick : BitVec 32) :
    q.offer tick b = { q with lostPending := true } := if_neg (Nat.not_le.mpr full)

/-! ### REPORT_READ (R176) -/

/-- 0 is read as 1, and values above 8 as 8. -/
theorem readCount_toNat (n : Byte) : readCount n.toNat = if n = 0 then 1 else if 8 < n.toNat then 8 else n.toNat := by
  unfold readCount
  split
  · next zero => rw [zero]; rfl
  · split <;> bv_omega

theorem wordBytes_mod (n : Nat) : wordBytes (n % 65536) = wordBytes n := by
  simp only [wordBytes, byteOf, List.cons.injEq, and_true]
  constructor <;> bv_omega

theorem reportReadAction_empty {s : State} (empty : s.reports.records = []) (n : Byte) :
    reportReadAction [n] s = ⟨.ok, [0, 0] ++ wordBytes s.guard.tick.toNat ++ [0, 0, 0, 0], s⟩ := by
  have stamp : wordBytes (s.guard.tick.truncate 16).toNat = wordBytes s.guard.tick.toNat := by
    rw [BitVec.truncate_eq_setWidth, BitVec.toNat_setWidth]
    exact wordBytes_mod _
  simp only [reportReadAction, empty, List.isEmpty_nil, if_true, Reply.done, noneRecordBytes, stamp]

/-- The records taken and those left, by the number taken. -/
theorem take_drop_of_append {α : Type} {xs front back : List α} {n : Nat} (parts : xs = front ++ back)
    (length : front.length = min n xs.length) : xs.take n = front ∧ xs.drop n = back := by
  subst parts
  rw [List.take_eq_take_min, ← length, List.drop_eq_drop_min, ← length]
  exact ⟨List.take_left, List.drop_left⟩

theorem reportReadAction_held {s : State} (held : s.reports.records ≠ []) {n : Byte} {removed kept : List Record}
    (parts : s.reports.records = removed ++ kept)
    (length : removed.length = min (readCount n.toNat) s.reports.records.length) :
    reportReadAction [n] s =
      ⟨.ok, removed.flatMap Record.bytes, { s with reports := { s.reports with records := kept } }⟩ := by
  obtain ⟨taken, left⟩ := take_drop_of_append parts length
  simp only [reportReadAction, List.isEmpty_iff, if_neg held, Reply.done, taken, left]

/-! ### ATTN_SET and the ATTN line (R177, R178) -/

theorem AttnMode.ofCode?_eq_none {n : Nat} (h : 1 < n) : AttnMode.ofCode? n = none := by
  match n, h with
  | n + 2, _ => rfl

theorem attnSetAction_range {mode : Byte} (bad : 1 < mode.toNat) (mask : Byte) (s : State) :
    attnSetAction [mask, mode] s = .refuse .range s := by
  simp only [attnSetAction, AttnMode.ofCode?_eq_none bad]

/-- LEVEL ends a pulse in progress. -/
theorem attnSetAction_level (mask : Byte) (s : State) :
    attnSetAction [mask, 0] s =
      .done [] { s with reports := { s.reports with attnMask := mask &&& 0x7E, attnMode := .level, pulse := none } } :=
  rfl

/-- PULSE keeps a pulse in progress (log 21). -/
theorem attnSetAction_pulse (mask : Byte) (s : State) :
    attnSetAction [mask, 1] s =
      .done [] { s with reports := { s.reports with attnMask := mask &&& 0x7E, attnMode := .pulse } } := rfl

theorem mem_allKinds (k : ReportKind) : k ∈ allKinds := by
  cases k <;> decide

theorem Reports.attn_level {q : Reports} (level : q.attnMode = .level) :
    q.attn = true ↔ ∃ r ∈ q.records, q.attnMask.getLsbD r.body.kind.code = true := by
  have line : q.attn = allKinds.any fun k => q.enabled k && decide (0 < q.countOf k) := by
    simp only [Reports.attn, level]
  simp only [line, List.any_eq_true, Bool.and_eq_true, decide_eq_true_eq, Reports.countOf, List.countP_pos_iff]
  constructor
  · rintro ⟨k, -, enabled, r, held, rfl⟩
    exact ⟨r, held, enabled⟩
  · rintro ⟨r, held, enabled⟩
    exact ⟨r.body.kind, mem_allKinds _, enabled, r, held, rfl⟩

theorem Reports.attn_pulse {q : Reports} (mode : q.attnMode = .pulse) : q.attn = true ↔ q.pulse ≠ none := by
  simp only [Reports.attn, mode, Option.isSome_iff_ne_none]

/-- Settles O59: the offer by its size, the two commands by their operands, the line by the mode, and the bytes kind by
kind. -/
theorem reportsAndAttention : Obligations.ReportsAndAttention := by
  refine ⟨fun q tick b => ⟨fun fits => Reports.offer_admitted fits tick, fun full => Reports.offer_lost full tick⟩,
    fun s p rest n asked => ?read, fun s p rest mask mode asked idle => ?attnSet, fun s => rfl,
    fun q => ⟨Reports.attn_level, Reports.attn_pulse⟩, fun lost stamp => ?bytes⟩
  case read =>
    intro wanted
    have done : ∀ {data t}, reportReadAction [n] s = ⟨.ok, data, t⟩ → t.control = s.control →
        exec .reportRead s = .next (answered t p rest .ok data) := fun reply queue =>
      congrArg Host.Outcome.next (carryOut_of_asks asked rfl (.inr rfl) reply queue)
    have count : readCount n.toNat = wanted := readCount_toNat n
    exact ⟨fun empty => done (reportReadAction_empty empty n) rfl, fun held removed kept parts length =>
      done (reportReadAction_held held parts (count ▸ length)) rfl⟩
  case attnSet =>
    have done : ∀ {status data t}, attnSetAction [mask, mode] s = ⟨status, data, t⟩ → t.control = s.control →
        exec .attnSet s = .next (answered t p rest status data) := fun reply queue =>
      congrArg Host.Outcome.next (carryOut_of_asks asked rfl (.inl idle) reply queue)
    refine ⟨?_, ?_, fun bad => done (attnSetAction_range bad mask s) rfl⟩
    · rintro rfl
      exact done (attnSetAction_level mask s) rfl
    · rintro rfl
      exact done (attnSetAction_pulse mask s) rfl
  case bytes =>
    refine ⟨fun _ _ _ _ _ => rfl, fun _ _ _ _ _ _ _ => rfl, fun _ _ => rfl, fun _ _ _ _ first => ?_,
      fun _ _ _ _ => rfl, fun _ _ _ _ => rfl⟩
    cases first <;> rfl

end Sys2Proof.Machine
end

section
/-! The LAYOUT section of the start-up image: what its bytes give, when it is refused, and how its slot ends (R183). -/

namespace Sys2Proof.Machine

/-! ### The layout that the bytes give -/

/-- The records of a list are read one by one: the entries read are as many, each that of its own 20 bytes. -/
theorem parseEntries_eq_some_iff {n : Nat} {bytes : List Byte} {es : List Entry} :
    parseEntries n bytes = some es ↔
      es.length = n ∧ ∀ j < n, parseEntry ((bytes.drop (20 * j)).take 20) = es[j]? := by
  induction n generalizing bytes es with
  | zero => simp [parseEntries, eq_comm]
  | succ n ih =>
    have next : ∀ j, (bytes.drop 20).drop (20 * j) = bytes.drop (20 * (j + 1)) := fun j => by
      rw [List.drop_drop, Nat.mul_succ, Nat.add_comm]
    have head_tail : parseEntries (n + 1) bytes = some es ↔
        ∃ e es', parseEntry (bytes.take 20) = some e ∧ parseEntries n (bytes.drop 20) = some es' ∧ e :: es' = es := by
      rw [parseEntries]
      cases parseEntry (bytes.take 20) <;> cases parseEntries n (bytes.drop 20) <;> simp
    simp only [head_tail, ih, next]
    constructor
    · rintro ⟨e, es', first, ⟨rfl, others⟩, rfl⟩
      refine ⟨rfl, fun j hj => ?_⟩
      cases j with
      | zero => exact first
      | succ j => exact others j (by omega)
    · rintro ⟨count, each⟩
      obtain ⟨e, es', rfl⟩ := List.exists_cons_of_length_eq_add_one count
      exact ⟨e, es', each 0 n.succ_pos, ⟨by simpa using count, fun j hj => each (j + 1) (by omega)⟩, rfl⟩

theorem parseEntries_eq_none {n j : Nat} {bytes : List Byte} (hj : j < n)
    (bad : parseEntry ((bytes.drop (20 * j)).take 20) = none) : parseEntries n bytes = none := by
  refine Option.eq_none_iff_forall_ne_some.mpr fun es read => ?_
  obtain ⟨count, each⟩ := parseEntries_eq_some_iff.mp read
  have : es.length ≤ j := List.getElem?_eq_none_iff.mp ((each j hj).symm.trans bad)
  omega

/-- Once every field lies in its range, the check decides (R183). -/
theorem parseLayout_of_parsed {f sp b : Byte} {count : Nat} {bytes : List Byte} {l : Layout}
    (modes : parseModes f sp b = some l.modes) (entries : parseEntries count bytes = some l.entries) :
    parseLayout f sp b count bytes = if l.check = none then some l else none := by
  simp only [parseLayout, modes, entries]
  cases l.check <;> rfl

theorem parseLayout_of_modes_none {f sp b : Byte} (modes : parseModes f sp b = none) (count : Nat)
    (bytes : List Byte) : parseLayout f sp b count bytes = none := by
  simp only [parseLayout, modes]

theorem parseLayout_of_entries_none {count : Nat} {bytes : List Byte} (entries : parseEntries count bytes = none)
    (f sp b : Byte) : parseLayout f sp b count bytes = none := by
  unfold parseLayout
  split
  · next read => cases entries.symm.trans read
  · rfl

/-! ### The section -/

/-- A LAYOUT section of the right length is handed to the slots (R182). -/
theorem State.applySection_layout (s : State) {count : Byte} {bytes : List Byte}
    (length : bytes.length = 20 * count.toNat) (n f sp b : Byte) :
    s.applySection 6 (n :: f :: sp :: b :: count :: bytes) =
      s.applyLayout (n :: f :: sp :: b :: count :: bytes) := by
  have fits : sectionFits 6 (n :: f :: sp :: b :: count :: bytes) = some true :=
    congrArg some (decide_eq_true (by simp only [List.length_cons]; omega))
  exact if_pos fits

section

variable {s : State} {n f sp b count : Byte} {bytes : List Byte}

/-- A slot that no edit is admitted to stays as it is (R8, R183). -/
theorem State.applyLayout_notAdmitted (refused : ∀ i, s.store.editTests n.toNat ≠ .ok i) :
    s.applyLayout (n :: f :: sp :: b :: count :: bytes) = (false, s) := by
  unfold State.applyLayout
  dsimp only
  split
  · rfl
  · next i admitted => exact absurd admitted (refused i)

theorem State.applyLayout_tooMany (many : 12 < count.toNat) :
    s.applyLayout (n :: f :: sp :: b :: count :: bytes) = (false, s) := by
  unfold State.applyLayout
  dsimp only
  split
  · rfl
  · exact if_pos many

/-- Once writing has begun, a slot whose bytes give a layout ends READY with it (R183). -/
theorem State.applyLayout_ready {i : Fin 8} (admitted : s.store.editTests n.toNat = .ok i) (room : count.toNat ≤ 12)
    {l : Layout} (parsed : parseLayout f sp b count.toNat bytes = some l) :
    s.applyLayout (n :: f :: sp :: b :: count :: bytes) = (true, s.writeSlot i ⟨.ready, l⟩) := by
  simp only [State.applyLayout, admitted, if_neg (Nat.not_lt.mpr room), parsed]

/-- Once writing has begun, a slot whose bytes give no layout ends EMPTY (R183). -/
theorem State.applyLayout_empty {i : Fin 8} (admitted : s.store.editTests n.toNat = .ok i) (room : count.toNat ≤ 12)
    (unparsed : parseLayout f sp b count.toNat bytes = none) :
    s.applyLayout (n :: f :: sp :: b :: count :: bytes) = (false, s.writeSlot i emptySlot) := by
  simp only [State.applyLayout, admitted, if_neg (Nat.not_lt.mpr room), unparsed]

end

/-- Settles O34: by the admission of the slot, then by the layout that the bytes give. -/
theorem layoutSection : Obligations.LayoutSection := by
  intro s n f sp b count bytes length body entry
  rw [s.applySection_layout length]
  refine ⟨?refused, fun i hin hi free room => ?_⟩
  case refused =>
    have notAdmitted : (n = 0 ∨ 8 ≤ n.toNat ∨ ∃ i : Fin 8, i.val = n.toNat ∧ s.store.inUse i = true) →
        ∀ i, s.store.editTests n.toNat ≠ .ok i := by
      intro h i ok
      obtain ⟨hin, hn, free⟩ := (s.store.editTests_ok n.toNat i).mp ok
      rcases h with rfl | h | ⟨i', hin', used⟩
      · exact hn rfl
      · omega
      · obtain rfl : i' = i := Fin.ext (hin'.trans hin.symm)
        exact absurd (free.symm.trans used) (by decide)
    rintro (h | h | many | h)
    · exact State.applyLayout_notAdmitted (notAdmitted (.inl h))
    · exact State.applyLayout_notAdmitted (notAdmitted (.inr (.inl h)))
    · exact State.applyLayout_tooMany many
    · exact State.applyLayout_notAdmitted (notAdmitted (.inr (.inr h)))
  have admitted : s.store.editTests n.toNat = .ok i := hin ▸ s.store.editTests_of_free hi free
  refine ⟨fun l codes number each => ?fits, fun bad => State.applyLayout_empty admitted room ?misfit⟩
  case fits =>
    obtain ⟨hf, hs, hb⟩ : l.modes.front.code = f.toNat ∧ l.modes.spine.code = sp.toNat
        ∧ l.modes.back.code = b.toNat := by simpa using codes
    have parsed := parseLayout_of_parsed (parseModes_codes hf hs hb) (parseEntries_eq_some_iff.mpr ⟨number, each⟩)
    exact ⟨fun passed => State.applyLayout_ready admitted room (parsed.trans (if_pos passed)),
      fun failed => State.applyLayout_empty admitted room (parsed.trans (if_neg failed))⟩
  case misfit =>
    rcases bad with h | h | h | ⟨j, hj, unread⟩
    · exact parseLayout_of_modes_none (parseModes_eq_none (.inl h)) ..
    · exact parseLayout_of_modes_none (parseModes_eq_none (.inr (.inl h))) ..
    · exact parseLayout_of_modes_none (parseModes_eq_none (.inr (.inr h))) ..
    · exact parseLayout_of_entries_none (parseEntries_eq_none hj unread) ..

end Sys2Proof.Machine
end

section
/-! The tie of a step to the commands. -/

namespace Sys2Proof.Machine

/-- Settles O1: with a front on the queue, `step` is its second branch by definition; replacing the queue twice leaves
the second queue. -/
theorem stepTakesFrontCommand : Obligations.StepTakesFrontCommand := by
  intro c rest s
  rfl

end Sys2Proof.Machine
end
